-- ==== Sys2Proof/Word.lean ====
section
/-! DEFINITION. The two word sizes of the machine (00_scope.md R5, R7): a byte is 8 bits, a word is 16 bits. -/

namespace Sys2Proof

/-- A byte: register contents, memory cells, data bus (R5, R7). -/
abbrev Byte := BitVec 8

/-- A word: program counter and addresses (R5, R7). -/
abbrev Word := BitVec 16

end Sys2Proof
end

