-- ==== Sys2Proof/Config.lean ====
section
/-! DEFINITION. The configuration record (00_scope.md R6) and the free values of the model: constants with no body, of
which no proof can know a value. The record is a field of State that no step changes, so a statement about every state
holds for every configuration. -/

namespace Sys2Proof

/-- `cpu_model` (R6): whether the C64-side CPU has the processor port. The drive CPU is always `mos6502` (60 R511). -/
inductive CpuModel where
  | mos6510
  | mos6502
deriving DecidableEq, Repr

/-- `vic_model` (R6, 60 R470). -/
inductive VicModel where
  | pal6569
  | ntsc6567
  | ntsc6567R56A
deriving DecidableEq, Repr

/-- `cia_model` (R6, 60 R456 to R458). -/
inductive CiaModel where
  | mos6526
  | mos8521
deriving DecidableEq, Repr

/-- `glue_logic` (R6, 20 R81). -/
inductive GlueLogic where
  | discrete
  | customIc
deriving DecidableEq, Repr

/-- `tod_hz` (R6, 60 R460): the frequency of the TOD tick input. -/
inductive TodHz where
  | hz50
  | hz60
deriving DecidableEq, Repr

/-- `reset_regs` (R6, 10 R45): A, X, Y and SP after a hard reset; and D, whose table value is 0 and which a proof takes as
any value (93 U15; log 5). -/
structure ResetRegs where
  a : Byte
  x : Byte
  y : Byte
  sp : Byte
  d : Bool
deriving DecidableEq, Repr

/-- `cia_delay_bits` (R6, 60 R448): for each named chain of the CIA pipeline the bit index of its stage 0; stage `k` of a
chain is `k` bits above it (log 10). -/
structure CiaDelayBits where
  countA : Nat
  countB : Nat
  loadA : Nat
  loadB : Nat
  oneShotA : Nat
  oneShotB : Nat
  serClk : Nat
  serLoad : Nat
  setInt : Nat
  clearInt : Nat
  setIcr : Nat
  clearIcr : Nat
  ackIcr : Nat
  readIcr : Nat
  todInt : Nat
  pb6Low : Nat
  pb7Low : Nat
deriving DecidableEq, Repr, Inhabited

/-- The chains of R448, each with its number of stages. `ClearIcr1/2` are stages 1 and 2 of a chain whose stage 0 nothing
sets. -/
def CiaDelayBits.chains (b : CiaDelayBits) : List (Nat × Nat) :=
  [(b.countA, 4), (b.countB, 4), (b.loadA, 3), (b.loadB, 3), (b.oneShotA, 1), (b.oneShotB, 1), (b.serClk, 3),
   (b.serLoad, 2), (b.setInt, 2), (b.clearInt, 1), (b.setIcr, 2), (b.clearIcr, 3), (b.ackIcr, 2), (b.readIcr, 2),
   (b.todInt, 1), (b.pb6Low, 2), (b.pb7Low, 2)]

/-- The bit positions of all stages. -/
def CiaDelayBits.positions (b : CiaDelayBits) : List Nat :=
  b.chains.flatMap fun c => (List.range c.2).map fun k => c.1 + k

/-- The bit positions of the stages above stage 0. -/
def CiaDelayBits.laterStages (b : CiaDelayBits) : List Nat :=
  b.chains.flatMap fun c => (List.range (c.2 - 1)).map fun k => c.1 + (k + 1)

/-- Which ROM images the host supplied (R6, 70 R542). -/
structure RomSet where
  basic : Bool
  char : Bool
  kernal : Bool
  drive : Bool
deriving DecidableEq, Repr

/-- No ROM image is missing; the drive's counts among them (log 4). -/
def RomSet.complete (r : RomSet) : Bool := r.basic && r.char && r.kernal && r.drive

/-- The configuration record (R6). The contents of `rom` are constants below (log 4), and `power_on_ram` is an argument of
power-on (log 3). -/
structure Config where
  cpuModel : CpuModel
  vicModel : VicModel
  ciaModel : CiaModel
  ciaTimerBBug : Bool
  ciaDelayBits : CiaDelayBits
  glueLogic : GlueLogic
  grayDotBug : Bool
  /-- `discharge_cycles_bit3`, `_bit6`, `_bit7` (10 R36). -/
  discharge3 : Nat
  discharge6 : Nat
  discharge7 : Nat
  /-- `bit3_strong_pulldown` (10 R36): the port states (direction, data) in which it holds (log 7). -/
  bit3Pulldown : List (Byte × Byte)
  aneMagic : Byte
  lxaMagic : Byte
  /-- No rule reads it: 60 R441, R460 give one TOD tick per frame (log 15). -/
  todHz : TodHz
  /-- `gcr_table`: the 5-bit code of each nibble (60 R523). -/
  gcrTable : List (BitVec 5)
  ultimaxUnmapped : Bool
  resetRegs : ResetRegs
  /-- `c64_cycle_duration`, tenths of a nanosecond (60 R513). -/
  cycleDuration : Nat
  /-- `vic_write_delay(reg)`, by register offset (60 R473; log 18). -/
  vicWriteDelay : List Nat
  /-- `glue_transition(old, new)`, at index `4 * old + new` (20 R81). -/
  glueTransition : List (BitVec 2)
  romsPresent : RomSet
deriving DecidableEq, Repr

/-! ## Free values

Each is an opaque constant: the spec leaves the value open, and nothing in Lean can evaluate it. -/

/-- The host-supplied `rom` array (R6, 10 R39): the byte at each address `$A000-$BFFF`, `$D000-$FFFF` (log 4). -/
opaque Config.romImage : Nat → Byte

/-- The 16 KiB drive ROM (20 R62), by drive address (log 4). -/
opaque Config.driveRomImage : Nat → Byte

/-- Cartridge ROM contents (20 R79, 10 R44): low ROM and high ROM by offset (log 37). -/
opaque Config.cartLowImage : Nat → Byte
opaque Config.cartHighImage : Nat → Byte

/-- `draw(byte)` (00_scope R8): the n-th free byte of the C64 side (log 8). -/
opaque Config.drawByte : Nat → Byte

/-- The n-th free byte of the drive side (log 8). -/
opaque Config.driveDrawByte : Nat → Byte

/-- The OPEN predicate `bit3_strong_pulldown` (R6, 93 U6) in the reset configuration (log 7). -/
opaque Config.openBit3Pulldown : List (Byte × Byte)

/-- The OPEN bit positions of the CIA pipeline (R6, 93 U7) in the reset configuration (log 10). -/
opaque Config.openCiaDelayBits : CiaDelayBits

/-- The byte SHA, SHX, SHY, TAS store when an RDY stall fell inside them (93 U3), by the cycle of the write (log 9). -/
opaque Config.unstableStore : BitVec 64 → Byte

/-- The OPEN constants of `$8B` and `$AB` (R6, 93 U1, U2) in the reset configuration (log 7). -/
opaque Config.openAneMagic : Byte
opaque Config.openLxaMagic : Byte

/-- The OPEN transition table of the custom-IC glue logic (R6, 93 U5) in the reset configuration (log 7). -/
opaque Config.openGlueTransition : List (BitVec 2)

/-! ## Defaults -/

/-- The standard Commodore 4-to-5 code (60 R523), nibble `$0` first. -/
def Config.standardGcr : List (BitVec 5) :=
  [0b01010#5, 0b01011#5, 0b10010#5, 0b10011#5, 0b01110#5, 0b01111#5, 0b10110#5, 0b10111#5,
   0b01001#5, 0b11001#5, 0b11010#5, 0b11011#5, 0b01101#5, 0b11101#5, 0b11110#5, 0b10101#5]

/-- The configuration after power-on: the defaults of R6; where R6 lists alternatives and no default, log 6. -/
def Config.default : Config where
  cpuModel := .mos6510
  vicModel := .pal6569
  ciaModel := .mos6526
  ciaTimerBBug := false
  ciaDelayBits := Config.openCiaDelayBits
  glueLogic := .discrete
  grayDotBug := false
  discharge3 := 350000
  discharge6 := 350000
  discharge7 := 350000
  bit3Pulldown := Config.openBit3Pulldown
  aneMagic := Config.openAneMagic
  lxaMagic := Config.openLxaMagic
  todHz := .hz50
  gcrTable := Config.standardGcr
  ultimaxUnmapped := true
  resetRegs := { a := 0, x := 0, y := 0, sp := 0xFD, d := false }
  cycleDuration := 10149
  vicWriteDelay := List.replicate 47 1
  glueTransition := Config.openGlueTransition
  romsPresent := { basic := true, char := true, kernal := true, drive := true }

/-! ## Raster geometry (60 R470) -/

/-- Cycles per raster line. -/
def VicModel.cyclesPerLine : VicModel → Nat
  | .pal6569 => 63
  | .ntsc6567 => 65
  | .ntsc6567R56A => 64

/-- Raster lines per frame. -/
def VicModel.linesPerFrame : VicModel → Nat
  | .pal6569 => 312
  | .ntsc6567 => 263
  | .ntsc6567R56A => 262

end Sys2Proof
end

