-- ==== Sys2Proof/Syntax.lean ====
section
/-! DEFINITION. The abstract syntax of the instruction set: one constructor per row of spec/opcode_table.json
(30_encoding.md rules R111, R115 to R117), its operand byte or operand word as argument (rule R110:
formats F1, F2, F3); the rows with an operand first, then the one-byte rows, each in opcode order. A name is the mnemonic and the addressing mode of rule R113 (none for implied and relative forms,
`A` for accumulator mode); where several opcodes share mnemonic and mode, the opcode byte follows. -/

namespace Sys2Proof

/-- An instruction: a row of the opcode table with its operand. -/
inductive Instr where
  /-- `$01` ORA izx, rule R251. -/
  | oraIzx (b : Byte)
  /-- `$03` SLO izx, rule R300. -/
  | sloIzx (b : Byte)
  /-- `$04` NOP zp, rule R313. -/
  | nopZp04 (b : Byte)
  /-- `$05` ORA zp, rule R251. -/
  | oraZp (b : Byte)
  /-- `$06` ASL zp, rule R254. -/
  | aslZp (b : Byte)
  /-- `$07` SLO zp, rule R300. -/
  | sloZp (b : Byte)
  /-- `$09` ORA imm, rule R251. -/
  | oraImm (b : Byte)
  /-- `$0B` ANC imm, rule R308. -/
  | ancImm0B (b : Byte)
  /-- `$0C` NOP abs, rule R313. -/
  | nopAbs0C (w : Word)
  /-- `$0D` ORA abs, rule R251. -/
  | oraAbs (w : Word)
  /-- `$0E` ASL abs, rule R254. -/
  | aslAbs (w : Word)
  /-- `$0F` SLO abs, rule R300. -/
  | sloAbs (w : Word)
  /-- `$10` BPL rel, rule R277. -/
  | bpl (off : Byte)
  /-- `$11` ORA izy, rule R251. -/
  | oraIzy (b : Byte)
  /-- `$13` SLO izy, rule R300. -/
  | sloIzy (b : Byte)
  /-- `$14` NOP zpx, rule R313. -/
  | nopZpx14 (b : Byte)
  /-- `$15` ORA zpx, rule R251. -/
  | oraZpx (b : Byte)
  /-- `$16` ASL zpx, rule R254. -/
  | aslZpx (b : Byte)
  /-- `$17` SLO zpx, rule R300. -/
  | sloZpx (b : Byte)
  /-- `$19` ORA aby, rule R251. -/
  | oraAby (w : Word)
  /-- `$1B` SLO aby, rule R300. -/
  | sloAby (w : Word)
  /-- `$1C` NOP abx, rule R313. -/
  | nopAbx1C (w : Word)
  /-- `$1D` ORA abx, rule R251. -/
  | oraAbx (w : Word)
  /-- `$1E` ASL abx, rule R254. -/
  | aslAbx (w : Word)
  /-- `$1F` SLO abx, rule R300. -/
  | sloAbx (w : Word)
  /-- `$20` JSR abs, rule R272. -/
  | jsr (w : Word)
  /-- `$21` AND izx, rule R250. -/
  | andIzx (b : Byte)
  /-- `$23` RLA izx, rule R301. -/
  | rlaIzx (b : Byte)
  /-- `$24` BIT zp, rule R253. -/
  | bitZp (b : Byte)
  /-- `$25` AND zp, rule R250. -/
  | andZp (b : Byte)
  /-- `$26` ROL zp, rule R256. -/
  | rolZp (b : Byte)
  /-- `$27` RLA zp, rule R301. -/
  | rlaZp (b : Byte)
  /-- `$29` AND imm, rule R250. -/
  | andImm (b : Byte)
  /-- `$2B` ANC imm, rule R308. -/
  | ancImm2B (b : Byte)
  /-- `$2C` BIT abs, rule R253. -/
  | bitAbs (w : Word)
  /-- `$2D` AND abs, rule R250. -/
  | andAbs (w : Word)
  /-- `$2E` ROL abs, rule R256. -/
  | rolAbs (w : Word)
  /-- `$2F` RLA abs, rule R301. -/
  | rlaAbs (w : Word)
  /-- `$30` BMI rel, rule R278. -/
  | bmi (off : Byte)
  /-- `$31` AND izy, rule R250. -/
  | andIzy (b : Byte)
  /-- `$33` RLA izy, rule R301. -/
  | rlaIzy (b : Byte)
  /-- `$34` NOP zpx, rule R313. -/
  | nopZpx34 (b : Byte)
  /-- `$35` AND zpx, rule R250. -/
  | andZpx (b : Byte)
  /-- `$36` ROL zpx, rule R256. -/
  | rolZpx (b : Byte)
  /-- `$37` RLA zpx, rule R301. -/
  | rlaZpx (b : Byte)
  /-- `$39` AND aby, rule R250. -/
  | andAby (w : Word)
  /-- `$3B` RLA aby, rule R301. -/
  | rlaAby (w : Word)
  /-- `$3C` NOP abx, rule R313. -/
  | nopAbx3C (w : Word)
  /-- `$3D` AND abx, rule R250. -/
  | andAbx (w : Word)
  /-- `$3E` ROL abx, rule R256. -/
  | rolAbx (w : Word)
  /-- `$3F` RLA abx, rule R301. -/
  | rlaAbx (w : Word)
  /-- `$41` EOR izx, rule R252. -/
  | eorIzx (b : Byte)
  /-- `$43` SRE izx, rule R302. -/
  | sreIzx (b : Byte)
  /-- `$44` NOP zp, rule R313. -/
  | nopZp44 (b : Byte)
  /-- `$45` EOR zp, rule R252. -/
  | eorZp (b : Byte)
  /-- `$46` LSR zp, rule R255. -/
  | lsrZp (b : Byte)
  /-- `$47` SRE zp, rule R302. -/
  | sreZp (b : Byte)
  /-- `$49` EOR imm, rule R252. -/
  | eorImm (b : Byte)
  /-- `$4B` ALR imm, rule R309. -/
  | alrImm (b : Byte)
  /-- `$4C` JMP abs, rule R270. -/
  | jmpAbs (w : Word)
  /-- `$4D` EOR abs, rule R252. -/
  | eorAbs (w : Word)
  /-- `$4E` LSR abs, rule R255. -/
  | lsrAbs (w : Word)
  /-- `$4F` SRE abs, rule R302. -/
  | sreAbs (w : Word)
  /-- `$50` BVC rel, rule R279. -/
  | bvc (off : Byte)
  /-- `$51` EOR izy, rule R252. -/
  | eorIzy (b : Byte)
  /-- `$53` SRE izy, rule R302. -/
  | sreIzy (b : Byte)
  /-- `$54` NOP zpx, rule R313. -/
  | nopZpx54 (b : Byte)
  /-- `$55` EOR zpx, rule R252. -/
  | eorZpx (b : Byte)
  /-- `$56` LSR zpx, rule R255. -/
  | lsrZpx (b : Byte)
  /-- `$57` SRE zpx, rule R302. -/
  | sreZpx (b : Byte)
  /-- `$59` EOR aby, rule R252. -/
  | eorAby (w : Word)
  /-- `$5B` SRE aby, rule R302. -/
  | sreAby (w : Word)
  /-- `$5C` NOP abx, rule R313. -/
  | nopAbx5C (w : Word)
  /-- `$5D` EOR abx, rule R252. -/
  | eorAbx (w : Word)
  /-- `$5E` LSR abx, rule R255. -/
  | lsrAbx (w : Word)
  /-- `$5F` SRE abx, rule R302. -/
  | sreAbx (w : Word)
  /-- `$61` ADC izx, rule R230. -/
  | adcIzx (b : Byte)
  /-- `$63` RRA izx, rule R303. -/
  | rraIzx (b : Byte)
  /-- `$64` NOP zp, rule R313. -/
  | nopZp64 (b : Byte)
  /-- `$65` ADC zp, rule R230. -/
  | adcZp (b : Byte)
  /-- `$66` ROR zp, rule R257. -/
  | rorZp (b : Byte)
  /-- `$67` RRA zp, rule R303. -/
  | rraZp (b : Byte)
  /-- `$69` ADC imm, rule R230. -/
  | adcImm (b : Byte)
  /-- `$6B` ARR imm, rule R310. -/
  | arrImm (b : Byte)
  /-- `$6C` JMP ind, rule R271. -/
  | jmpInd (w : Word)
  /-- `$6D` ADC abs, rule R230. -/
  | adcAbs (w : Word)
  /-- `$6E` ROR abs, rule R257. -/
  | rorAbs (w : Word)
  /-- `$6F` RRA abs, rule R303. -/
  | rraAbs (w : Word)
  /-- `$70` BVS rel, rule R280. -/
  | bvs (off : Byte)
  /-- `$71` ADC izy, rule R230. -/
  | adcIzy (b : Byte)
  /-- `$73` RRA izy, rule R303. -/
  | rraIzy (b : Byte)
  /-- `$74` NOP zpx, rule R313. -/
  | nopZpx74 (b : Byte)
  /-- `$75` ADC zpx, rule R230. -/
  | adcZpx (b : Byte)
  /-- `$76` ROR zpx, rule R257. -/
  | rorZpx (b : Byte)
  /-- `$77` RRA zpx, rule R303. -/
  | rraZpx (b : Byte)
  /-- `$79` ADC aby, rule R230. -/
  | adcAby (w : Word)
  /-- `$7B` RRA aby, rule R303. -/
  | rraAby (w : Word)
  /-- `$7C` NOP abx, rule R313. -/
  | nopAbx7C (w : Word)
  /-- `$7D` ADC abx, rule R230. -/
  | adcAbx (w : Word)
  /-- `$7E` ROR abx, rule R257. -/
  | rorAbx (w : Word)
  /-- `$7F` RRA abx, rule R303. -/
  | rraAbx (w : Word)
  /-- `$80` NOP imm, rule R313. -/
  | nopImm80 (b : Byte)
  /-- `$81` STA izx, rule R203. -/
  | staIzx (b : Byte)
  /-- `$82` NOP imm, rule R313. -/
  | nopImm82 (b : Byte)
  /-- `$83` SAX izx, rule R304. -/
  | saxIzx (b : Byte)
  /-- `$84` STY zp, rule R205. -/
  | styZp (b : Byte)
  /-- `$85` STA zp, rule R203. -/
  | staZp (b : Byte)
  /-- `$86` STX zp, rule R204. -/
  | stxZp (b : Byte)
  /-- `$87` SAX zp, rule R304. -/
  | saxZp (b : Byte)
  /-- `$89` NOP imm, rule R313. -/
  | nopImm89 (b : Byte)
  /-- `$8B` ANE imm, rule R316. -/
  | aneImm (b : Byte)
  /-- `$8C` STY abs, rule R205. -/
  | styAbs (w : Word)
  /-- `$8D` STA abs, rule R203. -/
  | staAbs (w : Word)
  /-- `$8E` STX abs, rule R204. -/
  | stxAbs (w : Word)
  /-- `$8F` SAX abs, rule R304. -/
  | saxAbs (w : Word)
  /-- `$90` BCC rel, rule R281. -/
  | bcc (off : Byte)
  /-- `$91` STA izy, rule R203. -/
  | staIzy (b : Byte)
  /-- `$93` SHA izy, rule R318. -/
  | shaIzy (b : Byte)
  /-- `$94` STY zpx, rule R205. -/
  | styZpx (b : Byte)
  /-- `$95` STA zpx, rule R203. -/
  | staZpx (b : Byte)
  /-- `$96` STX zpy, rule R204. -/
  | stxZpy (b : Byte)
  /-- `$97` SAX zpy, rule R304. -/
  | saxZpy (b : Byte)
  /-- `$99` STA aby, rule R203. -/
  | staAby (w : Word)
  /-- `$9B` TAS aby, rule R321. -/
  | tasAby (w : Word)
  /-- `$9C` SHY abx, rule R320. -/
  | shyAbx (w : Word)
  /-- `$9D` STA abx, rule R203. -/
  | staAbx (w : Word)
  /-- `$9E` SHX aby, rule R319. -/
  | shxAby (w : Word)
  /-- `$9F` SHA aby, rule R318. -/
  | shaAby (w : Word)
  /-- `$A0` LDY imm, rule R202. -/
  | ldyImm (b : Byte)
  /-- `$A1` LDA izx, rule R200. -/
  | ldaIzx (b : Byte)
  /-- `$A2` LDX imm, rule R201. -/
  | ldxImm (b : Byte)
  /-- `$A3` LAX izx, rule R305. -/
  | laxIzx (b : Byte)
  /-- `$A4` LDY zp, rule R202. -/
  | ldyZp (b : Byte)
  /-- `$A5` LDA zp, rule R200. -/
  | ldaZp (b : Byte)
  /-- `$A6` LDX zp, rule R201. -/
  | ldxZp (b : Byte)
  /-- `$A7` LAX zp, rule R305. -/
  | laxZp (b : Byte)
  /-- `$A9` LDA imm, rule R200. -/
  | ldaImm (b : Byte)
  /-- `$AB` LXA imm, rule R317. -/
  | lxaImm (b : Byte)
  /-- `$AC` LDY abs, rule R202. -/
  | ldyAbs (w : Word)
  /-- `$AD` LDA abs, rule R200. -/
  | ldaAbs (w : Word)
  /-- `$AE` LDX abs, rule R201. -/
  | ldxAbs (w : Word)
  /-- `$AF` LAX abs, rule R305. -/
  | laxAbs (w : Word)
  /-- `$B0` BCS rel, rule R282. -/
  | bcs (off : Byte)
  /-- `$B1` LDA izy, rule R200. -/
  | ldaIzy (b : Byte)
  /-- `$B3` LAX izy, rule R305. -/
  | laxIzy (b : Byte)
  /-- `$B4` LDY zpx, rule R202. -/
  | ldyZpx (b : Byte)
  /-- `$B5` LDA zpx, rule R200. -/
  | ldaZpx (b : Byte)
  /-- `$B6` LDX zpy, rule R201. -/
  | ldxZpy (b : Byte)
  /-- `$B7` LAX zpy, rule R305. -/
  | laxZpy (b : Byte)
  /-- `$B9` LDA aby, rule R200. -/
  | ldaAby (w : Word)
  /-- `$BB` LAS aby, rule R315. -/
  | lasAby (w : Word)
  /-- `$BC` LDY abx, rule R202. -/
  | ldyAbx (w : Word)
  /-- `$BD` LDA abx, rule R200. -/
  | ldaAbx (w : Word)
  /-- `$BE` LDX aby, rule R201. -/
  | ldxAby (w : Word)
  /-- `$BF` LAX aby, rule R305. -/
  | laxAby (w : Word)
  /-- `$C0` CPY imm, rule R236. -/
  | cpyImm (b : Byte)
  /-- `$C1` CMP izx, rule R234. -/
  | cmpIzx (b : Byte)
  /-- `$C2` NOP imm, rule R313. -/
  | nopImmC2 (b : Byte)
  /-- `$C3` DCP izx, rule R306. -/
  | dcpIzx (b : Byte)
  /-- `$C4` CPY zp, rule R236. -/
  | cpyZp (b : Byte)
  /-- `$C5` CMP zp, rule R234. -/
  | cmpZp (b : Byte)
  /-- `$C6` DEC zp, rule R238. -/
  | decZp (b : Byte)
  /-- `$C7` DCP zp, rule R306. -/
  | dcpZp (b : Byte)
  /-- `$C9` CMP imm, rule R234. -/
  | cmpImm (b : Byte)
  /-- `$CB` SBX imm, rule R311. -/
  | sbxImm (b : Byte)
  /-- `$CC` CPY abs, rule R236. -/
  | cpyAbs (w : Word)
  /-- `$CD` CMP abs, rule R234. -/
  | cmpAbs (w : Word)
  /-- `$CE` DEC abs, rule R238. -/
  | decAbs (w : Word)
  /-- `$CF` DCP abs, rule R306. -/
  | dcpAbs (w : Word)
  /-- `$D0` BNE rel, rule R283. -/
  | bne (off : Byte)
  /-- `$D1` CMP izy, rule R234. -/
  | cmpIzy (b : Byte)
  /-- `$D3` DCP izy, rule R306. -/
  | dcpIzy (b : Byte)
  /-- `$D4` NOP zpx, rule R313. -/
  | nopZpxD4 (b : Byte)
  /-- `$D5` CMP zpx, rule R234. -/
  | cmpZpx (b : Byte)
  /-- `$D6` DEC zpx, rule R238. -/
  | decZpx (b : Byte)
  /-- `$D7` DCP zpx, rule R306. -/
  | dcpZpx (b : Byte)
  /-- `$D9` CMP aby, rule R234. -/
  | cmpAby (w : Word)
  /-- `$DB` DCP aby, rule R306. -/
  | dcpAby (w : Word)
  /-- `$DC` NOP abx, rule R313. -/
  | nopAbxDC (w : Word)
  /-- `$DD` CMP abx, rule R234. -/
  | cmpAbx (w : Word)
  /-- `$DE` DEC abx, rule R238. -/
  | decAbx (w : Word)
  /-- `$DF` DCP abx, rule R306. -/
  | dcpAbx (w : Word)
  /-- `$E0` CPX imm, rule R235. -/
  | cpxImm (b : Byte)
  /-- `$E1` SBC izx, rule R232. -/
  | sbcIzx (b : Byte)
  /-- `$E2` NOP imm, rule R313. -/
  | nopImmE2 (b : Byte)
  /-- `$E3` ISC izx, rule R307. -/
  | iscIzx (b : Byte)
  /-- `$E4` CPX zp, rule R235. -/
  | cpxZp (b : Byte)
  /-- `$E5` SBC zp, rule R232. -/
  | sbcZp (b : Byte)
  /-- `$E6` INC zp, rule R237. -/
  | incZp (b : Byte)
  /-- `$E7` ISC zp, rule R307. -/
  | iscZp (b : Byte)
  /-- `$E9` SBC imm, rule R232. -/
  | sbcImm (b : Byte)
  /-- `$EB` USBC imm, rule R312. -/
  | usbcImm (b : Byte)
  /-- `$EC` CPX abs, rule R235. -/
  | cpxAbs (w : Word)
  /-- `$ED` SBC abs, rule R232. -/
  | sbcAbs (w : Word)
  /-- `$EE` INC abs, rule R237. -/
  | incAbs (w : Word)
  /-- `$EF` ISC abs, rule R307. -/
  | iscAbs (w : Word)
  /-- `$F0` BEQ rel, rule R284. -/
  | beq (off : Byte)
  /-- `$F1` SBC izy, rule R232. -/
  | sbcIzy (b : Byte)
  /-- `$F3` ISC izy, rule R307. -/
  | iscIzy (b : Byte)
  /-- `$F4` NOP zpx, rule R313. -/
  | nopZpxF4 (b : Byte)
  /-- `$F5` SBC zpx, rule R232. -/
  | sbcZpx (b : Byte)
  /-- `$F6` INC zpx, rule R237. -/
  | incZpx (b : Byte)
  /-- `$F7` ISC zpx, rule R307. -/
  | iscZpx (b : Byte)
  /-- `$F9` SBC aby, rule R232. -/
  | sbcAby (w : Word)
  /-- `$FB` ISC aby, rule R307. -/
  | iscAby (w : Word)
  /-- `$FC` NOP abx, rule R313. -/
  | nopAbxFC (w : Word)
  /-- `$FD` SBC abx, rule R232. -/
  | sbcAbx (w : Word)
  /-- `$FE` INC abx, rule R237. -/
  | incAbx (w : Word)
  /-- `$FF` ISC abx, rule R307. -/
  | iscAbx (w : Word)
  /-- `$00` BRK imp, rule R275. -/
  | brk
  /-- `$02` JAM imp, rule R314. -/
  | jam02
  /-- `$08` PHP imp, rule R221. -/
  | php
  /-- `$0A` ASL acc, rule R254. -/
  | aslA
  /-- `$12` JAM imp, rule R314. -/
  | jam12
  /-- `$18` CLC imp, rule R290. -/
  | clc
  /-- `$1A` NOP imp, rule R313. -/
  | nopImp1A
  /-- `$22` JAM imp, rule R314. -/
  | jam22
  /-- `$28` PLP imp, rule R223. -/
  | plp
  /-- `$2A` ROL acc, rule R256. -/
  | rolA
  /-- `$32` JAM imp, rule R314. -/
  | jam32
  /-- `$38` SEC imp, rule R291. -/
  | sec
  /-- `$3A` NOP imp, rule R313. -/
  | nopImp3A
  /-- `$40` RTI imp, rule R274. -/
  | rti
  /-- `$42` JAM imp, rule R314. -/
  | jam42
  /-- `$48` PHA imp, rule R220. -/
  | pha
  /-- `$4A` LSR acc, rule R255. -/
  | lsrA
  /-- `$52` JAM imp, rule R314. -/
  | jam52
  /-- `$58` CLI imp, rule R292. -/
  | cli
  /-- `$5A` NOP imp, rule R313. -/
  | nopImp5A
  /-- `$60` RTS imp, rule R273. -/
  | rts
  /-- `$62` JAM imp, rule R314. -/
  | jam62
  /-- `$68` PLA imp, rule R222. -/
  | pla
  /-- `$6A` ROR acc, rule R257. -/
  | rorA
  /-- `$72` JAM imp, rule R314. -/
  | jam72
  /-- `$78` SEI imp, rule R293. -/
  | sei
  /-- `$7A` NOP imp, rule R313. -/
  | nopImp7A
  /-- `$88` DEY imp, rule R242. -/
  | dey
  /-- `$8A` TXA imp, rule R208. -/
  | txa
  /-- `$92` JAM imp, rule R314. -/
  | jam92
  /-- `$98` TYA imp, rule R209. -/
  | tya
  /-- `$9A` TXS imp, rule R211. -/
  | txs
  /-- `$A8` TAY imp, rule R207. -/
  | tay
  /-- `$AA` TAX imp, rule R206. -/
  | tax
  /-- `$B2` JAM imp, rule R314. -/
  | jamB2
  /-- `$B8` CLV imp, rule R296. -/
  | clv
  /-- `$BA` TSX imp, rule R210. -/
  | tsx
  /-- `$C8` INY imp, rule R240. -/
  | iny
  /-- `$CA` DEX imp, rule R241. -/
  | dex
  /-- `$D2` JAM imp, rule R314. -/
  | jamD2
  /-- `$D8` CLD imp, rule R294. -/
  | cld
  /-- `$DA` NOP imp, rule R313. -/
  | nopImpDA
  /-- `$E8` INX imp, rule R239. -/
  | inx
  /-- `$EA` NOP imp, rule R297. -/
  | nop
  /-- `$F2` JAM imp, rule R314. -/
  | jamF2
  /-- `$F8` SED imp, rule R295. -/
  | sed
  /-- `$FA` NOP imp, rule R313. -/
  | nopImpFA
deriving DecidableEq, Repr

end Sys2Proof
end

