-- ==== Sys2Proof/WellFormed.lean ====
section
/-! DEFINITION. Well-formedness. Every opcode value is assigned (30_encoding.md R118) and every operand is a whole byte
or a whole word with no reserved value (R110, R112), so every term of `Instr` is an instruction: the checks below are on
what a constructor's type does not bound, the configuration record and the source form of a branch. -/

namespace Sys2Proof

/-- Every instruction is well formed (R111, R112, R118): there is no reserved encoding and no operand value that is
not allowed. -/
def Instr.wellFormed (_ : Instr) : Bool := true

/-- R121: the displacement byte an assembler writes for a branch at `at_` to `target`, computed as
`target - (at_ + 2)`; targets out of -128..+127 are rejected. -/
def branchOperand (at_ target : Word) : Option Byte :=
  let d := (target - (at_ + 2#16)).toInt
  if -128 ≤ d ∧ d ≤ 127 then some (BitVec.ofInt 8 d) else none

/-- The GCR table has one code per nibble, all different (60 R523: "P4 holds for any injective table"). -/
def Config.gcrOk (c : Config) : Bool := c.gcrTable.length == 16 && decide c.gcrTable.Nodup

/-- One transition per pair of banks (20 R81). -/
def Config.glueOk (c : Config) : Bool := c.glueTransition.length == 16

/-- One write delay per VIC-II register, of any number of cycles (60 R473). -/
def Config.vicDelayOk (c : Config) : Bool := c.vicWriteDelay.length == 47

/-- The chains of the CIA pipeline lie apart and inside its 64 bits (60 R446, R448). -/
def Config.ciaBitsOk (c : Config) : Bool :=
  decide c.ciaDelayBits.positions.Nodup && c.ciaDelayBits.positions.all (· < 64)

/-- A C64 cycle lasts some time (60 R513). -/
def Config.durationOk (c : Config) : Bool := 0 < c.cycleDuration

/-- The configuration record is well formed. -/
def Config.wellFormed (c : Config) : Bool := c.gcrOk && c.glueOk && c.vicDelayOk && c.ciaBitsOk && c.durationOk

end Sys2Proof
end

