-- ==== Sys2Proof/Decode.lean ====
section
/-! DEFINITION. Decoding and encoding (30_encoding.md rules R110 to R117, R120), with the byte helpers they and the
machine use. The opcode byte as a whole indexes a 256-entry map (R111); the map is written as rule R115 prints it, one
function per high nibble. -/

namespace Sys2Proof

/-- `lo(w) = w[7:0]` (00_scope.md R7). -/
def lo (w : Word) : Byte := w.extractLsb' 0 8

/-- `hi(w) = w[15:8]` (00_scope.md R7). -/
def hi (w : Word) : Byte := w.extractLsb' 8 8

/-- `h:l`, the 16-bit concatenation with `h` the high byte (00_scope.md R7, 20_memory.md R86). -/
def cat (h l : Byte) : Word := h ++ l

/-- `sext_16(b)` (00_scope.md R8). -/
def sext16 (b : Byte) : Word := b.signExtend 16

/-- `zext_16(b)` (00_scope.md R8): the zero-page address `$00:b`. -/
def zext16 (b : Byte) : Word := cat 0#8 b

/-- The three formats of rule R110, each with the instruction its operand completes. -/
inductive Form where
  | f1 (i : Instr)
  | f2 (f : Byte → Instr)
  | f3 (f : Word → Instr)

/-- Row $0x of the opcode map (R115), by the low nibble. -/
def opcodeRow0 : Nat → Form
  | 0 => .f1 .brk
  | 1 => .f2 .oraIzx
  | 2 => .f1 .jam02
  | 3 => .f2 .sloIzx
  | 4 => .f2 .nopZp04
  | 5 => .f2 .oraZp
  | 6 => .f2 .aslZp
  | 7 => .f2 .sloZp
  | 8 => .f1 .php
  | 9 => .f2 .oraImm
  | 10 => .f1 .aslA
  | 11 => .f2 .ancImm0B
  | 12 => .f3 .nopAbs0C
  | 13 => .f3 .oraAbs
  | 14 => .f3 .aslAbs
  | _ => .f3 .sloAbs

/-- Row $1x of the opcode map (R115), by the low nibble. -/
def opcodeRow1 : Nat → Form
  | 0 => .f2 .bpl
  | 1 => .f2 .oraIzy
  | 2 => .f1 .jam12
  | 3 => .f2 .sloIzy
  | 4 => .f2 .nopZpx14
  | 5 => .f2 .oraZpx
  | 6 => .f2 .aslZpx
  | 7 => .f2 .sloZpx
  | 8 => .f1 .clc
  | 9 => .f3 .oraAby
  | 10 => .f1 .nopImp1A
  | 11 => .f3 .sloAby
  | 12 => .f3 .nopAbx1C
  | 13 => .f3 .oraAbx
  | 14 => .f3 .aslAbx
  | _ => .f3 .sloAbx

/-- Row $2x of the opcode map (R115), by the low nibble. -/
def opcodeRow2 : Nat → Form
  | 0 => .f3 .jsr
  | 1 => .f2 .andIzx
  | 2 => .f1 .jam22
  | 3 => .f2 .rlaIzx
  | 4 => .f2 .bitZp
  | 5 => .f2 .andZp
  | 6 => .f2 .rolZp
  | 7 => .f2 .rlaZp
  | 8 => .f1 .plp
  | 9 => .f2 .andImm
  | 10 => .f1 .rolA
  | 11 => .f2 .ancImm2B
  | 12 => .f3 .bitAbs
  | 13 => .f3 .andAbs
  | 14 => .f3 .rolAbs
  | _ => .f3 .rlaAbs

/-- Row $3x of the opcode map (R115), by the low nibble. -/
def opcodeRow3 : Nat → Form
  | 0 => .f2 .bmi
  | 1 => .f2 .andIzy
  | 2 => .f1 .jam32
  | 3 => .f2 .rlaIzy
  | 4 => .f2 .nopZpx34
  | 5 => .f2 .andZpx
  | 6 => .f2 .rolZpx
  | 7 => .f2 .rlaZpx
  | 8 => .f1 .sec
  | 9 => .f3 .andAby
  | 10 => .f1 .nopImp3A
  | 11 => .f3 .rlaAby
  | 12 => .f3 .nopAbx3C
  | 13 => .f3 .andAbx
  | 14 => .f3 .rolAbx
  | _ => .f3 .rlaAbx

/-- Row $4x of the opcode map (R115), by the low nibble. -/
def opcodeRow4 : Nat → Form
  | 0 => .f1 .rti
  | 1 => .f2 .eorIzx
  | 2 => .f1 .jam42
  | 3 => .f2 .sreIzx
  | 4 => .f2 .nopZp44
  | 5 => .f2 .eorZp
  | 6 => .f2 .lsrZp
  | 7 => .f2 .sreZp
  | 8 => .f1 .pha
  | 9 => .f2 .eorImm
  | 10 => .f1 .lsrA
  | 11 => .f2 .alrImm
  | 12 => .f3 .jmpAbs
  | 13 => .f3 .eorAbs
  | 14 => .f3 .lsrAbs
  | _ => .f3 .sreAbs

/-- Row $5x of the opcode map (R115), by the low nibble. -/
def opcodeRow5 : Nat → Form
  | 0 => .f2 .bvc
  | 1 => .f2 .eorIzy
  | 2 => .f1 .jam52
  | 3 => .f2 .sreIzy
  | 4 => .f2 .nopZpx54
  | 5 => .f2 .eorZpx
  | 6 => .f2 .lsrZpx
  | 7 => .f2 .sreZpx
  | 8 => .f1 .cli
  | 9 => .f3 .eorAby
  | 10 => .f1 .nopImp5A
  | 11 => .f3 .sreAby
  | 12 => .f3 .nopAbx5C
  | 13 => .f3 .eorAbx
  | 14 => .f3 .lsrAbx
  | _ => .f3 .sreAbx

/-- Row $6x of the opcode map (R115), by the low nibble. -/
def opcodeRow6 : Nat → Form
  | 0 => .f1 .rts
  | 1 => .f2 .adcIzx
  | 2 => .f1 .jam62
  | 3 => .f2 .rraIzx
  | 4 => .f2 .nopZp64
  | 5 => .f2 .adcZp
  | 6 => .f2 .rorZp
  | 7 => .f2 .rraZp
  | 8 => .f1 .pla
  | 9 => .f2 .adcImm
  | 10 => .f1 .rorA
  | 11 => .f2 .arrImm
  | 12 => .f3 .jmpInd
  | 13 => .f3 .adcAbs
  | 14 => .f3 .rorAbs
  | _ => .f3 .rraAbs

/-- Row $7x of the opcode map (R115), by the low nibble. -/
def opcodeRow7 : Nat → Form
  | 0 => .f2 .bvs
  | 1 => .f2 .adcIzy
  | 2 => .f1 .jam72
  | 3 => .f2 .rraIzy
  | 4 => .f2 .nopZpx74
  | 5 => .f2 .adcZpx
  | 6 => .f2 .rorZpx
  | 7 => .f2 .rraZpx
  | 8 => .f1 .sei
  | 9 => .f3 .adcAby
  | 10 => .f1 .nopImp7A
  | 11 => .f3 .rraAby
  | 12 => .f3 .nopAbx7C
  | 13 => .f3 .adcAbx
  | 14 => .f3 .rorAbx
  | _ => .f3 .rraAbx

/-- Row $8x of the opcode map (R115), by the low nibble. -/
def opcodeRow8 : Nat → Form
  | 0 => .f2 .nopImm80
  | 1 => .f2 .staIzx
  | 2 => .f2 .nopImm82
  | 3 => .f2 .saxIzx
  | 4 => .f2 .styZp
  | 5 => .f2 .staZp
  | 6 => .f2 .stxZp
  | 7 => .f2 .saxZp
  | 8 => .f1 .dey
  | 9 => .f2 .nopImm89
  | 10 => .f1 .txa
  | 11 => .f2 .aneImm
  | 12 => .f3 .styAbs
  | 13 => .f3 .staAbs
  | 14 => .f3 .stxAbs
  | _ => .f3 .saxAbs

/-- Row $9x of the opcode map (R115), by the low nibble. -/
def opcodeRow9 : Nat → Form
  | 0 => .f2 .bcc
  | 1 => .f2 .staIzy
  | 2 => .f1 .jam92
  | 3 => .f2 .shaIzy
  | 4 => .f2 .styZpx
  | 5 => .f2 .staZpx
  | 6 => .f2 .stxZpy
  | 7 => .f2 .saxZpy
  | 8 => .f1 .tya
  | 9 => .f3 .staAby
  | 10 => .f1 .txs
  | 11 => .f3 .tasAby
  | 12 => .f3 .shyAbx
  | 13 => .f3 .staAbx
  | 14 => .f3 .shxAby
  | _ => .f3 .shaAby

/-- Row $Ax of the opcode map (R115), by the low nibble. -/
def opcodeRowA : Nat → Form
  | 0 => .f2 .ldyImm
  | 1 => .f2 .ldaIzx
  | 2 => .f2 .ldxImm
  | 3 => .f2 .laxIzx
  | 4 => .f2 .ldyZp
  | 5 => .f2 .ldaZp
  | 6 => .f2 .ldxZp
  | 7 => .f2 .laxZp
  | 8 => .f1 .tay
  | 9 => .f2 .ldaImm
  | 10 => .f1 .tax
  | 11 => .f2 .lxaImm
  | 12 => .f3 .ldyAbs
  | 13 => .f3 .ldaAbs
  | 14 => .f3 .ldxAbs
  | _ => .f3 .laxAbs

/-- Row $Bx of the opcode map (R115), by the low nibble. -/
def opcodeRowB : Nat → Form
  | 0 => .f2 .bcs
  | 1 => .f2 .ldaIzy
  | 2 => .f1 .jamB2
  | 3 => .f2 .laxIzy
  | 4 => .f2 .ldyZpx
  | 5 => .f2 .ldaZpx
  | 6 => .f2 .ldxZpy
  | 7 => .f2 .laxZpy
  | 8 => .f1 .clv
  | 9 => .f3 .ldaAby
  | 10 => .f1 .tsx
  | 11 => .f3 .lasAby
  | 12 => .f3 .ldyAbx
  | 13 => .f3 .ldaAbx
  | 14 => .f3 .ldxAby
  | _ => .f3 .laxAby

/-- Row $Cx of the opcode map (R115), by the low nibble. -/
def opcodeRowC : Nat → Form
  | 0 => .f2 .cpyImm
  | 1 => .f2 .cmpIzx
  | 2 => .f2 .nopImmC2
  | 3 => .f2 .dcpIzx
  | 4 => .f2 .cpyZp
  | 5 => .f2 .cmpZp
  | 6 => .f2 .decZp
  | 7 => .f2 .dcpZp
  | 8 => .f1 .iny
  | 9 => .f2 .cmpImm
  | 10 => .f1 .dex
  | 11 => .f2 .sbxImm
  | 12 => .f3 .cpyAbs
  | 13 => .f3 .cmpAbs
  | 14 => .f3 .decAbs
  | _ => .f3 .dcpAbs

/-- Row $Dx of the opcode map (R115), by the low nibble. -/
def opcodeRowD : Nat → Form
  | 0 => .f2 .bne
  | 1 => .f2 .cmpIzy
  | 2 => .f1 .jamD2
  | 3 => .f2 .dcpIzy
  | 4 => .f2 .nopZpxD4
  | 5 => .f2 .cmpZpx
  | 6 => .f2 .decZpx
  | 7 => .f2 .dcpZpx
  | 8 => .f1 .cld
  | 9 => .f3 .cmpAby
  | 10 => .f1 .nopImpDA
  | 11 => .f3 .dcpAby
  | 12 => .f3 .nopAbxDC
  | 13 => .f3 .cmpAbx
  | 14 => .f3 .decAbx
  | _ => .f3 .dcpAbx

/-- Row $Ex of the opcode map (R115), by the low nibble. -/
def opcodeRowE : Nat → Form
  | 0 => .f2 .cpxImm
  | 1 => .f2 .sbcIzx
  | 2 => .f2 .nopImmE2
  | 3 => .f2 .iscIzx
  | 4 => .f2 .cpxZp
  | 5 => .f2 .sbcZp
  | 6 => .f2 .incZp
  | 7 => .f2 .iscZp
  | 8 => .f1 .inx
  | 9 => .f2 .sbcImm
  | 10 => .f1 .nop
  | 11 => .f2 .usbcImm
  | 12 => .f3 .cpxAbs
  | 13 => .f3 .sbcAbs
  | 14 => .f3 .incAbs
  | _ => .f3 .iscAbs

/-- Row $Fx of the opcode map (R115), by the low nibble. -/
def opcodeRowF : Nat → Form
  | 0 => .f2 .beq
  | 1 => .f2 .sbcIzy
  | 2 => .f1 .jamF2
  | 3 => .f2 .iscIzy
  | 4 => .f2 .nopZpxF4
  | 5 => .f2 .sbcZpx
  | 6 => .f2 .incZpx
  | 7 => .f2 .iscZpx
  | 8 => .f1 .sed
  | 9 => .f3 .sbcAby
  | 10 => .f1 .nopImpFA
  | 11 => .f3 .iscAby
  | 12 => .f3 .nopAbxFC
  | 13 => .f3 .sbcAbx
  | 14 => .f3 .incAbx
  | _ => .f3 .iscAbx

/-- The 256-entry opcode map (R111, R115): total, each byte value selects exactly one row. -/
def opcodeForm (op : Byte) : Form :=
  match op.toNat / 16 with
  | 0 => opcodeRow0 (op.toNat % 16)
  | 1 => opcodeRow1 (op.toNat % 16)
  | 2 => opcodeRow2 (op.toNat % 16)
  | 3 => opcodeRow3 (op.toNat % 16)
  | 4 => opcodeRow4 (op.toNat % 16)
  | 5 => opcodeRow5 (op.toNat % 16)
  | 6 => opcodeRow6 (op.toNat % 16)
  | 7 => opcodeRow7 (op.toNat % 16)
  | 8 => opcodeRow8 (op.toNat % 16)
  | 9 => opcodeRow9 (op.toNat % 16)
  | 10 => opcodeRowA (op.toNat % 16)
  | 11 => opcodeRowB (op.toNat % 16)
  | 12 => opcodeRowC (op.toNat % 16)
  | 13 => opcodeRowD (op.toNat % 16)
  | 14 => opcodeRowE (op.toNat % 16)
  | _ => opcodeRowF (op.toNat % 16)

/-- Why a list of bytes is not an instruction. Every opcode byte is assigned (R118), so the one reason is that bytes
are missing. Raised by `decode`; safe (nothing is executed). -/
inductive DecodeError where
  | truncated
deriving DecidableEq, Repr

/-- The instruction at the head of a list of bytes, and the bytes after it (R110, R112: the operand word has its low
byte first). -/
def decode : List Byte → Except DecodeError (Instr × List Byte)
  | [] => .error .truncated
  | op :: rest =>
    match opcodeForm op with
    | .f1 i => .ok (i, rest)
    | .f2 f =>
      match rest with
      | b1 :: rest => .ok (f b1, rest)
      | [] => .error .truncated
    | .f3 f =>
      match rest with
      | b1 :: b2 :: rest => .ok (f (cat b2 b1), rest)
      | _ => .error .truncated

/-- The length in bytes of the instruction an opcode byte begins (R120: a function of byte 0 alone). -/
def opcodeLength (op : Byte) : Nat :=
  match opcodeForm op with
  | .f1 _ => 1
  | .f2 _ => 2
  | .f3 _ => 3

/-- The bytes of an instruction (R110, R115). -/
def encode : Instr → List Byte
  | .brk => [0x00#8]
  | .oraIzx b => [0x01#8, b]
  | .jam02 => [0x02#8]
  | .sloIzx b => [0x03#8, b]
  | .nopZp04 b => [0x04#8, b]
  | .oraZp b => [0x05#8, b]
  | .aslZp b => [0x06#8, b]
  | .sloZp b => [0x07#8, b]
  | .php => [0x08#8]
  | .oraImm b => [0x09#8, b]
  | .aslA => [0x0A#8]
  | .ancImm0B b => [0x0B#8, b]
  | .nopAbs0C w => [0x0C#8, lo w, hi w]
  | .oraAbs w => [0x0D#8, lo w, hi w]
  | .aslAbs w => [0x0E#8, lo w, hi w]
  | .sloAbs w => [0x0F#8, lo w, hi w]
  | .bpl b => [0x10#8, b]
  | .oraIzy b => [0x11#8, b]
  | .jam12 => [0x12#8]
  | .sloIzy b => [0x13#8, b]
  | .nopZpx14 b => [0x14#8, b]
  | .oraZpx b => [0x15#8, b]
  | .aslZpx b => [0x16#8, b]
  | .sloZpx b => [0x17#8, b]
  | .clc => [0x18#8]
  | .oraAby w => [0x19#8, lo w, hi w]
  | .nopImp1A => [0x1A#8]
  | .sloAby w => [0x1B#8, lo w, hi w]
  | .nopAbx1C w => [0x1C#8, lo w, hi w]
  | .oraAbx w => [0x1D#8, lo w, hi w]
  | .aslAbx w => [0x1E#8, lo w, hi w]
  | .sloAbx w => [0x1F#8, lo w, hi w]
  | .jsr w => [0x20#8, lo w, hi w]
  | .andIzx b => [0x21#8, b]
  | .jam22 => [0x22#8]
  | .rlaIzx b => [0x23#8, b]
  | .bitZp b => [0x24#8, b]
  | .andZp b => [0x25#8, b]
  | .rolZp b => [0x26#8, b]
  | .rlaZp b => [0x27#8, b]
  | .plp => [0x28#8]
  | .andImm b => [0x29#8, b]
  | .rolA => [0x2A#8]
  | .ancImm2B b => [0x2B#8, b]
  | .bitAbs w => [0x2C#8, lo w, hi w]
  | .andAbs w => [0x2D#8, lo w, hi w]
  | .rolAbs w => [0x2E#8, lo w, hi w]
  | .rlaAbs w => [0x2F#8, lo w, hi w]
  | .bmi b => [0x30#8, b]
  | .andIzy b => [0x31#8, b]
  | .jam32 => [0x32#8]
  | .rlaIzy b => [0x33#8, b]
  | .nopZpx34 b => [0x34#8, b]
  | .andZpx b => [0x35#8, b]
  | .rolZpx b => [0x36#8, b]
  | .rlaZpx b => [0x37#8, b]
  | .sec => [0x38#8]
  | .andAby w => [0x39#8, lo w, hi w]
  | .nopImp3A => [0x3A#8]
  | .rlaAby w => [0x3B#8, lo w, hi w]
  | .nopAbx3C w => [0x3C#8, lo w, hi w]
  | .andAbx w => [0x3D#8, lo w, hi w]
  | .rolAbx w => [0x3E#8, lo w, hi w]
  | .rlaAbx w => [0x3F#8, lo w, hi w]
  | .rti => [0x40#8]
  | .eorIzx b => [0x41#8, b]
  | .jam42 => [0x42#8]
  | .sreIzx b => [0x43#8, b]
  | .nopZp44 b => [0x44#8, b]
  | .eorZp b => [0x45#8, b]
  | .lsrZp b => [0x46#8, b]
  | .sreZp b => [0x47#8, b]
  | .pha => [0x48#8]
  | .eorImm b => [0x49#8, b]
  | .lsrA => [0x4A#8]
  | .alrImm b => [0x4B#8, b]
  | .jmpAbs w => [0x4C#8, lo w, hi w]
  | .eorAbs w => [0x4D#8, lo w, hi w]
  | .lsrAbs w => [0x4E#8, lo w, hi w]
  | .sreAbs w => [0x4F#8, lo w, hi w]
  | .bvc b => [0x50#8, b]
  | .eorIzy b => [0x51#8, b]
  | .jam52 => [0x52#8]
  | .sreIzy b => [0x53#8, b]
  | .nopZpx54 b => [0x54#8, b]
  | .eorZpx b => [0x55#8, b]
  | .lsrZpx b => [0x56#8, b]
  | .sreZpx b => [0x57#8, b]
  | .cli => [0x58#8]
  | .eorAby w => [0x59#8, lo w, hi w]
  | .nopImp5A => [0x5A#8]
  | .sreAby w => [0x5B#8, lo w, hi w]
  | .nopAbx5C w => [0x5C#8, lo w, hi w]
  | .eorAbx w => [0x5D#8, lo w, hi w]
  | .lsrAbx w => [0x5E#8, lo w, hi w]
  | .sreAbx w => [0x5F#8, lo w, hi w]
  | .rts => [0x60#8]
  | .adcIzx b => [0x61#8, b]
  | .jam62 => [0x62#8]
  | .rraIzx b => [0x63#8, b]
  | .nopZp64 b => [0x64#8, b]
  | .adcZp b => [0x65#8, b]
  | .rorZp b => [0x66#8, b]
  | .rraZp b => [0x67#8, b]
  | .pla => [0x68#8]
  | .adcImm b => [0x69#8, b]
  | .rorA => [0x6A#8]
  | .arrImm b => [0x6B#8, b]
  | .jmpInd w => [0x6C#8, lo w, hi w]
  | .adcAbs w => [0x6D#8, lo w, hi w]
  | .rorAbs w => [0x6E#8, lo w, hi w]
  | .rraAbs w => [0x6F#8, lo w, hi w]
  | .bvs b => [0x70#8, b]
  | .adcIzy b => [0x71#8, b]
  | .jam72 => [0x72#8]
  | .rraIzy b => [0x73#8, b]
  | .nopZpx74 b => [0x74#8, b]
  | .adcZpx b => [0x75#8, b]
  | .rorZpx b => [0x76#8, b]
  | .rraZpx b => [0x77#8, b]
  | .sei => [0x78#8]
  | .adcAby w => [0x79#8, lo w, hi w]
  | .nopImp7A => [0x7A#8]
  | .rraAby w => [0x7B#8, lo w, hi w]
  | .nopAbx7C w => [0x7C#8, lo w, hi w]
  | .adcAbx w => [0x7D#8, lo w, hi w]
  | .rorAbx w => [0x7E#8, lo w, hi w]
  | .rraAbx w => [0x7F#8, lo w, hi w]
  | .nopImm80 b => [0x80#8, b]
  | .staIzx b => [0x81#8, b]
  | .nopImm82 b => [0x82#8, b]
  | .saxIzx b => [0x83#8, b]
  | .styZp b => [0x84#8, b]
  | .staZp b => [0x85#8, b]
  | .stxZp b => [0x86#8, b]
  | .saxZp b => [0x87#8, b]
  | .dey => [0x88#8]
  | .nopImm89 b => [0x89#8, b]
  | .txa => [0x8A#8]
  | .aneImm b => [0x8B#8, b]
  | .styAbs w => [0x8C#8, lo w, hi w]
  | .staAbs w => [0x8D#8, lo w, hi w]
  | .stxAbs w => [0x8E#8, lo w, hi w]
  | .saxAbs w => [0x8F#8, lo w, hi w]
  | .bcc b => [0x90#8, b]
  | .staIzy b => [0x91#8, b]
  | .jam92 => [0x92#8]
  | .shaIzy b => [0x93#8, b]
  | .styZpx b => [0x94#8, b]
  | .staZpx b => [0x95#8, b]
  | .stxZpy b => [0x96#8, b]
  | .saxZpy b => [0x97#8, b]
  | .tya => [0x98#8]
  | .staAby w => [0x99#8, lo w, hi w]
  | .txs => [0x9A#8]
  | .tasAby w => [0x9B#8, lo w, hi w]
  | .shyAbx w => [0x9C#8, lo w, hi w]
  | .staAbx w => [0x9D#8, lo w, hi w]
  | .shxAby w => [0x9E#8, lo w, hi w]
  | .shaAby w => [0x9F#8, lo w, hi w]
  | .ldyImm b => [0xA0#8, b]
  | .ldaIzx b => [0xA1#8, b]
  | .ldxImm b => [0xA2#8, b]
  | .laxIzx b => [0xA3#8, b]
  | .ldyZp b => [0xA4#8, b]
  | .ldaZp b => [0xA5#8, b]
  | .ldxZp b => [0xA6#8, b]
  | .laxZp b => [0xA7#8, b]
  | .tay => [0xA8#8]
  | .ldaImm b => [0xA9#8, b]
  | .tax => [0xAA#8]
  | .lxaImm b => [0xAB#8, b]
  | .ldyAbs w => [0xAC#8, lo w, hi w]
  | .ldaAbs w => [0xAD#8, lo w, hi w]
  | .ldxAbs w => [0xAE#8, lo w, hi w]
  | .laxAbs w => [0xAF#8, lo w, hi w]
  | .bcs b => [0xB0#8, b]
  | .ldaIzy b => [0xB1#8, b]
  | .jamB2 => [0xB2#8]
  | .laxIzy b => [0xB3#8, b]
  | .ldyZpx b => [0xB4#8, b]
  | .ldaZpx b => [0xB5#8, b]
  | .ldxZpy b => [0xB6#8, b]
  | .laxZpy b => [0xB7#8, b]
  | .clv => [0xB8#8]
  | .ldaAby w => [0xB9#8, lo w, hi w]
  | .tsx => [0xBA#8]
  | .lasAby w => [0xBB#8, lo w, hi w]
  | .ldyAbx w => [0xBC#8, lo w, hi w]
  | .ldaAbx w => [0xBD#8, lo w, hi w]
  | .ldxAby w => [0xBE#8, lo w, hi w]
  | .laxAby w => [0xBF#8, lo w, hi w]
  | .cpyImm b => [0xC0#8, b]
  | .cmpIzx b => [0xC1#8, b]
  | .nopImmC2 b => [0xC2#8, b]
  | .dcpIzx b => [0xC3#8, b]
  | .cpyZp b => [0xC4#8, b]
  | .cmpZp b => [0xC5#8, b]
  | .decZp b => [0xC6#8, b]
  | .dcpZp b => [0xC7#8, b]
  | .iny => [0xC8#8]
  | .cmpImm b => [0xC9#8, b]
  | .dex => [0xCA#8]
  | .sbxImm b => [0xCB#8, b]
  | .cpyAbs w => [0xCC#8, lo w, hi w]
  | .cmpAbs w => [0xCD#8, lo w, hi w]
  | .decAbs w => [0xCE#8, lo w, hi w]
  | .dcpAbs w => [0xCF#8, lo w, hi w]
  | .bne b => [0xD0#8, b]
  | .cmpIzy b => [0xD1#8, b]
  | .jamD2 => [0xD2#8]
  | .dcpIzy b => [0xD3#8, b]
  | .nopZpxD4 b => [0xD4#8, b]
  | .cmpZpx b => [0xD5#8, b]
  | .decZpx b => [0xD6#8, b]
  | .dcpZpx b => [0xD7#8, b]
  | .cld => [0xD8#8]
  | .cmpAby w => [0xD9#8, lo w, hi w]
  | .nopImpDA => [0xDA#8]
  | .dcpAby w => [0xDB#8, lo w, hi w]
  | .nopAbxDC w => [0xDC#8, lo w, hi w]
  | .cmpAbx w => [0xDD#8, lo w, hi w]
  | .decAbx w => [0xDE#8, lo w, hi w]
  | .dcpAbx w => [0xDF#8, lo w, hi w]
  | .cpxImm b => [0xE0#8, b]
  | .sbcIzx b => [0xE1#8, b]
  | .nopImmE2 b => [0xE2#8, b]
  | .iscIzx b => [0xE3#8, b]
  | .cpxZp b => [0xE4#8, b]
  | .sbcZp b => [0xE5#8, b]
  | .incZp b => [0xE6#8, b]
  | .iscZp b => [0xE7#8, b]
  | .inx => [0xE8#8]
  | .sbcImm b => [0xE9#8, b]
  | .nop => [0xEA#8]
  | .usbcImm b => [0xEB#8, b]
  | .cpxAbs w => [0xEC#8, lo w, hi w]
  | .sbcAbs w => [0xED#8, lo w, hi w]
  | .incAbs w => [0xEE#8, lo w, hi w]
  | .iscAbs w => [0xEF#8, lo w, hi w]
  | .beq b => [0xF0#8, b]
  | .sbcIzy b => [0xF1#8, b]
  | .jamF2 => [0xF2#8]
  | .iscIzy b => [0xF3#8, b]
  | .nopZpxF4 b => [0xF4#8, b]
  | .sbcZpx b => [0xF5#8, b]
  | .incZpx b => [0xF6#8, b]
  | .iscZpx b => [0xF7#8, b]
  | .sed => [0xF8#8]
  | .sbcAby w => [0xF9#8, lo w, hi w]
  | .nopImpFA => [0xFA#8]
  | .iscAby w => [0xFB#8, lo w, hi w]
  | .nopAbxFC w => [0xFC#8, lo w, hi w]
  | .sbcAbx w => [0xFD#8, lo w, hi w]
  | .incAbx w => [0xFE#8, lo w, hi w]
  | .iscAbx w => [0xFF#8, lo w, hi w]

/-- The opcode byte of an instruction. -/
def Instr.opcode (i : Instr) : Byte := (encode i).headD 0#8

/-- The bytes of a number, least significant first: the instruction bytes of a word numbered as the opcode table
numbers it, the bits at and above `nbits` zero, up to the longest instruction (3 bytes). -/
def wordBytes (nbits w : Nat) : List Byte :=
  let v := w % 2 ^ nbits
  [BitVec.ofNat 8 v, BitVec.ofNat 8 (v / 256), BitVec.ofNat 8 (v / 65536)]

/-- The instruction the decoder reads from a table word (the host's question). -/
def decodeTableWord (nbits w : Nat) : Option Instr :=
  match decode (wordBytes nbits w) with
  | .ok (i, _) => some i
  | .error _ => none

end Sys2Proof
end

