-- ==== Sys2Proof/Machine/State.lean ====
section
/-! DEFINITION. The state of the whole machine as plain data (10_state.md, 60_exceptions.md sections 6 to 8), the reasons a
step stops, and the state after power-on and hard reset (10 R45, 60 R465, R499, R533). INVENTORY.md lists every field
with its rule. -/

namespace Sys2Proof.Machine

/-! ## Why a step stops -/

/-- Why the machine stops. -/
inductive Fault where
  /-- Raised by `step` when the C64 CPU is jammed: it "has no step" and only reset leaves the state (40 R149, 60 R400,
  93 U17: stuck). Safe: no next state is claimed. -/
  | jammed
  /-- Raised by `step` when the micro-instruction pointer names no row of its template (`t` outside the rows of 10 R27):
  no state of the machine. Safe: no next state is claimed. -/
  | noRow
deriving DecidableEq, Repr

/-- Why the model has no meaning for an instruction. -/
inductive Refusal where
  /-- Raised by an arm of `exec` whose instruction has no meaning yet. Safe. -/
  | notModelled (mnemonic : String)
  /-- Raised by `step` when the decoder rejects the bytes at the program counter; never happens, every opcode being
  assigned (30 R118). Safe. -/
  | undecodable
deriving DecidableEq, Repr

/-! ## The CPU (10_state.md sections 1 to 4) -/

/-- The six stored flags of `P` (10 R24); bits 5 and 4 exist only in a pushed byte. -/
structure Flags where
  n : Bool
  v : Bool
  d : Bool
  i : Bool
  z : Bool
  c : Bool
deriving DecidableEq, Repr

/-- The two interrupt sequences (10 R27). -/
inductive IntKind where
  | nmi
  | irq
deriving DecidableEq, Repr

/-- The micro-instruction pointer (10 R27): `exec op t`, `int k t` name the cycle about to run. -/
inductive Mip where
  | fetch
  | exec (op : Byte) (t : Nat)
  | int (kind : IntKind) (t : Nat)
  | jammed
deriving DecidableEq, Repr

/-- `ErrorState` (10 R33). -/
inductive ErrorState where
  | ok
  | softBp
  | hardBp
  | illegal
deriving DecidableEq, Repr

/-- An interrupt detector with its one-cycle delay buffer (10 R29). -/
structure Detector where
  cur : Bool
  delayed : Bool
deriving DecidableEq, Repr

/-- The CPU's inputs from outside and its clock: source masks (10 R28), detectors (R29), RDY (R31), cycle counter
(R32). Devices write these; instructions do not. -/
structure Lines where
  irqLine : Byte
  nmiLine : Byte
  nmiEdge : Detector
  irqLevel : Detector
  rdy : Bool
  rdyLineUp : BitVec 64
  rdyLineDown : BitVec 64
  cycle : BitVec 64
deriving DecidableEq, Repr

/-- One instance of the CPU (10 R20 to R33; 00 R1: the C64's and the drive's). -/
structure Cpu where
  a : Byte
  x : Byte
  y : Byte
  sp : Byte
  pc : Word
  p : Flags
  pcFrozen : Word
  adl : Byte
  adh : Byte
  idl : Byte
  d : Byte
  mip : Mip
  doNmi : Bool
  doIrq : Bool
  errorState : ErrorState
  /-- The run-loop flag `CPU_JAMMED` (60 R442). -/
  jamFlag : Bool
  /-- The model's own: a read row of the running instruction was stalled by RDY (93 U3, log 9). -/
  stalled : Bool
  lines : Lines
deriving DecidableEq, Repr

/-! ## Memory -/

/-- Memory as a list of cells in one canonical form: addresses strictly rising, no cell holding 0, which is what an
unlisted address reads as (log 3). -/
abbrev Memory := List Host.Cell

/-- The processor port (10 R34 to R36). -/
structure ProcPort where
  dir : Byte
  data : Byte
  discharge3 : BitVec 64
  discharge6 : BitVec 64
  discharge7 : BitVec 64
deriving DecidableEq, Repr

/-- The cartridge (20 R79, 10 R44): its two lines and its ROM contents. `switching` says that it changes GAME and EXROM at
accesses of its own; `romL`, `romH` list bytes by offset, an unlisted offset is host-supplied (log 37). -/
structure Cart where
  present : Bool
  game : Bool
  exrom : Bool
  switching : Bool
  romL : Memory
  romH : Memory
deriving DecidableEq, Repr

/-! ## CIA (10 R41) -/

/-- A TOD time: the four BCD fields (60 R445, R460). -/
structure TodTime where
  hours : Byte
  minutes : Byte
  seconds : Byte
  tenths : Byte
deriving DecidableEq, Repr

/-- The time-of-day clock (60 R460 to R463). -/
structure Tod where
  time : TodTime
  alarm : TodTime
  latch : TodTime
  frozen : Bool
  stopped : Bool
  divider : Nat
  matched : Bool
deriving DecidableEq, Repr

/-- One CIA (10 R41; 60 R445 to R465). -/
structure Cia where
  counterA : Word
  counterB : Word
  latchA : Word
  latchB : Word
  cra : Byte
  crb : Byte
  icr : Byte
  imr : Byte
  icrAck : Byte
  icrNext : Byte
  delay : BitVec 64
  feed : BitVec 64
  pra : Byte
  prb : Byte
  ddra : Byte
  ddrb : Byte
  extA : Byte
  extB : Byte
  sdr : Byte
  shiftReg : Byte
  serCount : BitVec 4
  taOut : Bool
  tbOut : Bool
  /-- The model's own: timer B's underflow of this cycle set ICR bit 1, which was clear (R457). -/
  tbFresh : Bool
  pulseA : Bool
  pulseB : Bool
  toggleA : Bool
  toggleB : Bool
  irqOut : Bool
  cnt : Bool
  cntPrev : Bool
  sp : Bool
  flagPin : Bool
  flagPrev : Bool
  tod : Tod
  todTick : Bool
deriving DecidableEq, Repr

/-! ## VIC-II (10 R42) -/

/-- One sprite record (10 R42; 60 R479, R480). -/
structure Sprite where
  pointer : Byte
  mc : BitVec 6
  dma : Bool
  expFlop : Bool
  data : BitVec 24
deriving DecidableEq, Repr

/-- A copy of one register under way from `reg.current` to `reg.delayed`, with the cycles it has left (60 R473). -/
structure VicCopy where
  reg : Nat
  left : Nat
deriving DecidableEq, Repr

/-- The VIC-II (10 R42; 60 R470 to R499). -/
structure Vic where
  line : Nat
  cycle : Nat
  cur : Memory
  del : Memory
  irrRaster : Bool
  irrMbc : Bool
  irrMmc : Bool
  irrLp : Bool
  irq7 : Bool
  irqOut : Bool
  ba : Bool
  mm : Byte
  md : Byte
  delay : BitVec 32
  feed : BitVec 32
  /-- The copies of the delay pipeline, one chain per register (log 18). -/
  copies : List VicCopy
  denLatch : Bool
  badLine : Bool
  display : Bool
  vc : BitVec 10
  vcBase : BitVec 10
  vmli : BitVec 6
  rc : BitVec 3
  matrix : Memory
  colors : Memory
  gdata : Byte
  bank : BitVec 2
  mainBorder : Bool
  vertBorder : Bool
  lpx : Byte
  lpy : Byte
  lpPrev : Bool
  lpDone : Bool
  sprites : List Sprite
deriving DecidableEq, Repr

/-! ## 1541 drive (10 R43) -/

/-- A VIA 6522 as far as its pins are named (60 R520, R521, R522; log 27). -/
structure Via where
  regs : Memory
  ca1 : Bool
deriving DecidableEq, Repr

/-- One halftrack: its length in bits, at most 7928 * 8, and its bits (60 R526; `Track.ok`). -/
structure Track where
  length : Nat
  bits : List Bool
deriving DecidableEq, Repr

/-- One block after a SYNC, as an analysis pass logs it (60 R528): where it starts, its first byte (none if that is no GCR
code), and whether its checksum is right (log 44). -/
structure BlockInfo where
  start : Nat
  mark : Option Byte
  checksumOk : Bool
deriving DecidableEq, Repr

/-- A 'track analysis' (10 R43): the halftrack and its blocks. -/
structure TrackAnalysis where
  halftrack : Nat
  blocks : List BlockInfo
deriving DecidableEq, Repr

/-- The disk (60 R526). Halftrack `h` is element `h - 1`. `analysis` is the cached 'track analysis' (10 R43), which the
host fills and a written bit drops. -/
structure Disk where
  tracks : List Track
  writeProtected : Bool
  modified : Bool
  analysis : Option TrackAnalysis
deriving DecidableEq, Repr

/-- The drive subsystem (60 R510 to R533). -/
structure Drive where
  cpu : Cpu
  ram : Memory
  rom : Memory
  via1 : Via
  via2 : Via
  halftrack : Nat
  offset : Nat
  zone : BitVec 2
  ue7 : BitVec 4
  ue3 : BitVec 2
  shift : BitVec 10
  byteCount : BitVec 3
  readByte : Byte
  nextClock : Nat
  nextCarry : Nat
  disk : Disk
  draws : Nat
deriving DecidableEq, Repr

/-! ## The whole machine -/

/-- The two kinds of reset (70 R540, R541). -/
inductive ResetKind where
  | hard
  | soft
deriving DecidableEq, Repr

/-- Why power-on is refused (70 R542, 60 R437). -/
inductive PowerError where
  | romMissing
deriving DecidableEq, Repr

/-- External inputs that hold a level until the host changes it (10 R35, R40, R44; 60 R403, R436). -/
structure Inputs where
  datasetteKey : Bool
  restoreKey : Bool
  freezeButton : Bool
  cartIrq : Bool
  resetReq : Option ResetKind
deriving DecidableEq, Repr

/-- The state of the whole machine. -/
structure State where
  cfg : Config
  cpu : Cpu
  port : ProcPort
  ram : Memory
  colorRam : Memory
  rom : Memory
  cart : Cart
  inputs : Inputs
  cia1 : Cia
  cia2 : Cia
  vic : Vic
  drive : Drive
  elapsed : Nat
  draws : Nat
deriving DecidableEq, Repr

/-! ## Reset values -/

/-- 10 R45: the lines after reset (every source released, RDY high); the cycle counter is given. -/
def Lines.resetAt (cycle : BitVec 64) : Lines where
  irqLine := 0
  nmiLine := 0
  nmiEdge := { cur := false, delayed := false }
  irqLevel := { cur := false, delayed := false }
  rdy := true
  rdyLineUp := 0
  rdyLineDown := 0
  cycle := cycle

/-- 10 R45, hard reset column: the CPU with its program counter at the vector's target. -/
def Cpu.resetAt (r : ResetRegs) (pc : Word) : Cpu where
  a := r.a
  x := r.x
  y := r.y
  sp := r.sp
  pc := pc
  p := { n := false, v := false, d := r.d, i := true, z := false, c := false }
  pcFrozen := pc
  adl := 0
  adh := 0
  idl := 0
  d := 0
  mip := .fetch
  doNmi := false
  doIrq := false
  errorState := .ok
  jamFlag := false
  stalled := false
  lines := Lines.resetAt 0

/-- 10 R45: the port after reset. -/
def ProcPort.reset : ProcPort where
  dir := 0
  data := 0
  discharge3 := 0
  discharge6 := 0
  discharge7 := 0

/-- No cartridge: GAME = EXROM = 1 (20 R72). -/
def Cart.none : Cart where
  present := false
  game := true
  exrom := true
  switching := false
  romL := []
  romH := []

/-- 60 R465: TOD 01:00:00.0 AM, stopped until tenths are written, alarm 0. -/
def Tod.reset : Tod where
  time := { hours := 1, minutes := 0, seconds := 0, tenths := 0 }
  alarm := { hours := 0, minutes := 0, seconds := 0, tenths := 0 }
  latch := { hours := 0, minutes := 0, seconds := 0, tenths := 0 }
  frozen := false
  stopped := true
  divider := 0
  matched := false

/-- 60 R465: a CIA after reset (for the fields it does not name, log 40). -/
def Cia.reset : Cia where
  counterA := 0xFFFF
  counterB := 0xFFFF
  latchA := 0xFFFF
  latchB := 0xFFFF
  cra := 0
  crb := 0
  icr := 0
  imr := 0
  icrAck := 0
  icrNext := 0
  delay := 0
  feed := 0
  pra := 0
  prb := 0
  ddra := 0
  ddrb := 0
  extA := 0xFF
  extB := 0xFF
  sdr := 0
  shiftReg := 0
  serCount := 0
  taOut := false
  tbOut := false
  tbFresh := false
  pulseA := false
  pulseB := false
  toggleA := false
  toggleB := false
  irqOut := false
  cnt := true
  cntPrev := true
  sp := true
  flagPin := true
  flagPrev := true
  tod := Tod.reset
  todTick := false

/-- A sprite after reset: DMA off (60 R499); the rest is log 40. -/
def Sprite.reset : Sprite where
  pointer := 0
  mc := 0
  dma := false
  expFlop := true
  data := 0

/-- 60 R499: the VIC-II after reset (for the fields it does not name, log 40). -/
def Vic.reset : Vic where
  line := 0
  cycle := 1
  cur := []
  del := []
  irrRaster := false
  irrMbc := false
  irrMmc := false
  irrLp := false
  irq7 := false
  irqOut := false
  ba := true
  mm := 0
  md := 0
  delay := 0
  feed := 0
  copies := []
  denLatch := false
  badLine := false
  display := false
  vc := 0
  vcBase := 0
  vmli := 0
  rc := 0
  matrix := []
  colors := []
  gdata := 0
  bank := 0
  mainBorder := false
  vertBorder := false
  lpx := 0
  lpy := 0
  lpPrev := true
  lpDone := false
  sprites := List.replicate 8 Sprite.reset

/-- 60 R533: a VIA after reset, all ports inputs. -/
def Via.reset : Via where
  regs := []
  ca1 := false

/-- A drive without a formatted disk: 84 halftracks of length 0 (log 40). -/
def Disk.blank : Disk where
  tracks := List.replicate 84 { length := 0, bits := [] }
  writeProtected := false
  modified := false
  analysis := none

/-- 60 R533: the drive after power-on, its CPU at the vector `$FFFC` of the drive ROM. The head position, the disk, the zone
(3, as the undriven density pins read) and the other unnamed fields are the model's choice (log 40). -/
def Drive.reset (r : ResetRegs) : Drive where
  cpu := Cpu.resetAt r (cat (Config.driveRomImage 0xFFFD) (Config.driveRomImage 0xFFFC))
  ram := []
  rom := []
  via1 := Via.reset
  via2 := Via.reset
  halftrack := 35
  offset := 0
  zone := 3
  ue7 := 0
  ue3 := 0
  shift := 0
  byteCount := 0
  readByte := 0
  nextClock := 0
  nextCarry := 0
  disk := Disk.blank
  draws := 0

/-- Inputs at rest. -/
def Inputs.idle : Inputs where
  datasetteKey := false
  restoreKey := false
  freezeButton := false
  cartIrq := false
  resetReq := none

/-- The machine after power-on and hard reset (10 R45; 70 R540, R542) with no cartridge: the port is all inputs, so the
KERNAL image answers the vector `$FFFC/$FFFD` (log 4 for the image, log 33 for how a program comes to run). -/
def State.reset : State where
  cfg := Config.default
  cpu := Cpu.resetAt Config.default.resetRegs (cat (Config.romImage 0xFFFD) (Config.romImage 0xFFFC))
  port := ProcPort.reset
  ram := []
  colorRam := []
  rom := []
  cart := Cart.none
  inputs := Inputs.idle
  cia1 := Cia.reset
  cia2 := Cia.reset
  vic := Vic.reset
  drive := Drive.reset Config.default.resetRegs
  elapsed := 0
  draws := 0

end Sys2Proof.Machine
end

