-- ==== Sys2Proof/Machine/Flags.lean ====
section
/-! DEFINITION. Every flag computation: the pushed and pulled forms of `P` (10_state.md R24), `setNZ` (00_scope.md R8), the
arithmetic of 43_arithmetic.md, the shifts of 44_logic_shift.md and the adder-derived flags of `ARR` (47 R310). Operands
are converted to integers, the exact result is computed and then narrowed (00 R7). -/

namespace Sys2Proof.Machine

/-- `pushP(b)` (10 R24): `N V 1 B D I Z C`. -/
def Flags.push (p : Flags) (b : Bool) : Byte :=
  BitVec.ofBool p.n ++ BitVec.ofBool p.v ++ 1#1 ++ BitVec.ofBool b ++ BitVec.ofBool p.d ++ BitVec.ofBool p.i ++
    BitVec.ofBool p.z ++ BitVec.ofBool p.c

/-- `pullP(v)` (10 R24): bits 5 and 4 are ignored. -/
def Flags.pull (v : Byte) : Flags where
  n := v.getLsbD 7
  v := v.getLsbD 6
  d := v.getLsbD 3
  i := v.getLsbD 2
  z := v.getLsbD 1
  c := v.getLsbD 0

/-- `setNZ(v)` (00 R8). -/
def Flags.setNZ (p : Flags) (v : Byte) : Flags := { p with n := v.getLsbD 7, z := v == 0#8 }

/-- The carry as a number. -/
def Flags.cNat (p : Flags) : Nat := p.c.toNat

/-- `ADC` with `P.D = 0` (43 R230): the new accumulator and flags. -/
def adcBinary (p : Flags) (a m : Byte) : Byte × Flags :=
  let s := a.toNat + m.toNat + p.cNat
  let r := BitVec.ofNat 8 s
  (r, { p.setNZ r with c := decide (s > 0xFF), v := ((a ^^^ r) &&& (m ^^^ r) &&& 0x80#8) != 0#8 })

/-- `lo` of R231 after its correction: the low digit's sum with the half carry as bit 4. -/
def adcDecimalLow (p : Flags) (a m : Byte) : Nat :=
  let lo := a.toNat % 16 + m.toNat % 16 + p.cNat
  if lo ≥ 0x0A then (lo + 0x06) % 16 + 0x10 else lo

/-- `t` of R231 before the high-digit correction. -/
def adcDecimalSum (p : Flags) (a m : Byte) : Nat :=
  a.toNat / 16 * 16 + m.toNat / 16 * 16 + adcDecimalLow p a m

/-- `ADC` with `P.D = 1` (43 R231): Z from the binary sum, N and V from the uncorrected `t`, C from the corrected one. -/
def adcDecimal (p : Flags) (a m : Byte) : Byte × Flags :=
  let bin := BitVec.ofNat 8 (a.toNat + m.toNat + p.cNat)
  let t := adcDecimalSum p a m
  let t8 := BitVec.ofNat 8 t
  let t' := if t ≥ 0xA0 then t + 0x60 else t
  (BitVec.ofNat 8 t',
    { p with n := t8.getLsbD 7, v := ((a ^^^ t8) &&& (m ^^^ t8) &&& 0x80#8) != 0#8,
             c := decide (t' ≥ 0x100), z := bin == 0#8 })

/-- `ADC` (43 R230, R231). -/
def adc (p : Flags) (a m : Byte) : Byte × Flags :=
  if p.d then adcDecimal p a m else adcBinary p a m

/-- The binary difference and the flags of `SBC`, the same in both modes (43 R232). -/
def sbcBinary (p : Flags) (a m : Byte) : Byte × Flags :=
  let s := a.toNat + (m ^^^ 0xFF#8).toNat + p.cNat
  let r := BitVec.ofNat 8 s
  (r, { p.setNZ r with c := decide (s > 0xFF), v := ((a ^^^ m) &&& (a ^^^ r) &&& 0x80#8) != 0#8 })

/-- The accumulator of `SBC` with `P.D = 1` (43 R233); `x & m` of a negative integer is on its two's-complement form. -/
def sbcDecimal (p : Flags) (a m : Byte) : Byte :=
  let lo : Int := (a.toNat % 16 : Nat) - (m.toNat % 16 : Nat) + (p.cNat : Nat) - 1
  let lo := if lo < 0 then (lo - 0x06) % 16 - 0x10 else lo
  let t : Int := (a.toNat / 16 * 16 : Nat) - (m.toNat / 16 * 16 : Nat) + lo
  let t := if t < 0 then t - 0x60 else t
  BitVec.ofInt 8 t

/-- `SBC` (43 R232, R233). -/
def sbc (p : Flags) (a m : Byte) : Byte × Flags :=
  (if p.d then sbcDecimal p a m else (sbcBinary p a m).1, (sbcBinary p a m).2)

/-- `CMP`, `CPX`, `CPY` of a register value `r` (43 R234 to R236): unsigned comparison, V unchanged. -/
def compare (p : Flags) (r m : Byte) : Flags :=
  { p with n := (r - m).getLsbD 7, z := r == m, c := decide (m.toNat ≤ r.toNat) }

/-- `BIT` (44 R253). -/
def bitTest (p : Flags) (a m : Byte) : Flags :=
  { p with z := (a &&& m) == 0#8, n := m.getLsbD 7, v := m.getLsbD 6 }

/-- `asl(v)` (44 R254, 47): result and carry. -/
def asl (v : Byte) : Byte × Bool := (v <<< 1, v.getLsbD 7)

/-- `lsr(v)` (44 R255). -/
def lsr (v : Byte) : Byte × Bool := (v >>> 1, v.getLsbD 0)

/-- `rol(v)` (44 R256) with the carry rotated in. -/
def rol (c : Bool) (v : Byte) : Byte × Bool := ((v <<< 1) ||| (BitVec.ofBool c).setWidth 8, v.getLsbD 7)

/-- `ror(v)` (44 R257) with the carry rotated in. -/
def ror (c : Bool) (v : Byte) : Byte × Bool := ((v >>> 1) ||| ((BitVec.ofBool c).setWidth 8 <<< 7), v.getLsbD 0)

/-- `ARR` with `P.D = 0` (47 R310). -/
def arrBinary (p : Flags) (a m : Byte) : Byte × Flags :=
  let r := (ror p.c (a &&& m)).1
  (r, { p.setNZ r with c := r.getLsbD 6, v := r.getLsbD 6 != r.getLsbD 5 })

/-- `ARR` with `P.D = 1` (47 R310): N from the carry before the instruction, Z and V before the digit corrections. -/
def arrDecimal (p : Flags) (a m : Byte) : Byte × Flags :=
  let t := a &&& m
  let r := (ror p.c t).1
  let r1 := if (t &&& 0x0F#8).toNat + (t &&& 0x01#8).toNat > 0x05 then (r &&& 0xF0#8) ||| ((r + 0x06#8) &&& 0x0F#8) else r
  let high := decide ((t &&& 0xF0#8).toNat + (t &&& 0x10#8).toNat > 0x50)
  let r2 := if high then (r1 &&& 0x0F#8) ||| ((r1 + 0x60#8) &&& 0xF0#8) else r1
  (r2, { p with n := p.c, z := r == 0#8, v := (t ^^^ r).getLsbD 6, c := high })

/-- `ARR` (47 R310). -/
def arr (p : Flags) (a m : Byte) : Byte × Flags :=
  if p.d then arrDecimal p a m else arrBinary p a m

end Sys2Proof.Machine
end

