-- ==== Sys2Proof/Machine/Ops.lean ====
section
/-! DEFINITION. The named operations over memory and CPU registers: reading and writing a memory in canonical form; the
rows a cycle template is made of (40_datapath_cycles.md R140, R143); the interrupt poll (R146, 60 R409); the interrupt
lines (60 R404, R405); pushes and pulls (00 R8, 10 R21); taking an exception, one shared sequence of rows for BRK, IRQ and
NMI (60 R412, 45 R275), and the return from one beside it (45 R274). -/

namespace Sys2Proof.Machine

/-! ## Memory -/

/-- The byte at address `k`; an unlisted address reads as 0 (log 3). -/
def Memory.read : Memory → Nat → Byte
  | [], _ => 0#8
  | (a, b) :: m, k => if k = a then b else Memory.read m k

/-- Writing `v` at `k`, keeping the canonical form: cells stay in rising order and writing 0 removes the cell. -/
def Memory.write : Memory → Nat → Byte → Memory
  | [], k, v => if v = 0#8 then [] else [(k, v)]
  | (a, b) :: m, k, v =>
    if k < a then
      if v = 0#8 then (a, b) :: Memory.write m k v else (k, v) :: (a, b) :: m
    else if k = a then
      if v = 0#8 then Memory.write m k v else (k, v) :: m
    else (a, b) :: Memory.write m k v

/-- The canonical form: no cell holds 0 and addresses are strictly rising. -/
def Memory.wf : Memory → Bool
  | [] => true
  | [(_, b)] => b != 0#8
  | (a, b) :: (a', b') :: m => b != 0#8 && decide (a < a') && Memory.wf ((a', b') :: m)

/-- Every listed address is below `n`. -/
def Memory.below (n : Nat) (m : Memory) : Bool := m.all fun c => decide (c.1 < n)

/-- A ROM image: the byte listed for an address, else the host-supplied one (log 4). -/
def romRead (image : Nat → Byte) : Memory → Nat → Byte
  | [], k => image k
  | (a, b) :: m, k => if k = a then b else romRead image m k

/-! ## The interrupt lines (10 R28, R29; 60 R403 to R405) -/

/-- The sources of 10 R28 as bits of a mask; the index is open and no rule depends on it (93 U18, log 36). -/
inductive Source where
  | cia
  | vic
  | expansion
  | keyboard
  | via1
  | via2
deriving DecidableEq, Repr

/-- `bit(src)`. -/
def Source.bit : Source → Byte
  | .cia => 0x01#8
  | .vic => 0x02#8
  | .expansion => 0x04#8
  | .keyboard => 0x08#8
  | .via1 => 0x10#8
  | .via2 => 0x20#8

/-- `pullDown(IRQ, src)` (60 R404). -/
def Lines.pullIrq (src : Source) (l : Lines) : Lines :=
  { l with irqLine := l.irqLine ||| src.bit, irqLevel := { l.irqLevel with cur := true } }

/-- `release(IRQ, src)` (60 R405). -/
def Lines.releaseIrq (src : Source) (l : Lines) : Lines :=
  let m := l.irqLine &&& ~~~src.bit
  { l with irqLine := m, irqLevel := { l.irqLevel with cur := m != 0#8 } }

/-- `pullDown(NMI, src)` (60 R404): a falling edge only if no source held the line low. -/
def Lines.pullNmi (src : Source) (l : Lines) : Lines :=
  { l with nmiLine := l.nmiLine ||| src.bit,
           nmiEdge := { l.nmiEdge with cur := l.nmiEdge.cur || l.nmiLine == 0#8 } }

/-- `release(NMI, src)` (60 R405): a latched edge stays latched. -/
def Lines.releaseNmi (src : Source) (l : Lines) : Lines :=
  { l with nmiLine := l.nmiLine &&& ~~~src.bit }

/-- A source holds the IRQ line low exactly while `on`. -/
def Lines.driveIrq (src : Source) (on : Bool) (l : Lines) : Lines :=
  if on then l.pullIrq src else l.releaseIrq src

/-- A source holds the NMI line low exactly while `on`. -/
def Lines.driveNmi (src : Source) (on : Bool) (l : Lines) : Lines :=
  if on then l.pullNmi src else l.releaseNmi src

/-- The VIC-II sets RDY (10 R31); the cycles at which it last rose and fell are retained. -/
def Lines.setRdy (on : Bool) (l : Lines) : Lines :=
  { l with rdy := on,
           rdyLineUp := if on && !l.rdy then l.cycle else l.rdyLineUp,
           rdyLineDown := if !on && l.rdy then l.cycle else l.rdyLineDown }

/-- Housekeeping at the end of every clock cycle, stalled or not (40 R145). -/
def Lines.housekeep (l : Lines) : Lines :=
  { l with nmiEdge := { l.nmiEdge with delayed := l.nmiEdge.cur },
           irqLevel := { l.irqLevel with delayed := l.irqLevel.cur },
           cycle := l.cycle + 1 }

/-! ## CPU steps inside a row -/

/-- `poll()` (60 R409, 40 R146). -/
def Cpu.poll (c : Cpu) : Cpu :=
  { c with doNmi := c.lines.nmiEdge.delayed, doIrq := c.lines.irqLevel.delayed && !c.p.i }

/-- `poll_or()` (60 R409). -/
def Cpu.pollOr (c : Cpu) : Cpu :=
  { c with doNmi := c.doNmi || c.lines.nmiEdge.delayed,
           doIrq := c.doIrq || (c.lines.irqLevel.delayed && !c.p.i) }

/-- "end": the next cycle fetches (40 section 3). -/
def Cpu.done (c : Cpu) : Cpu := { c with mip := .fetch }

/-- The CPU stands at an instruction boundary (40 R147), or is jammed and has no next row (R149). -/
def Cpu.atBoundary (c : Cpu) : Bool :=
  match c.mip with
  | .fetch => true
  | .jammed => true
  | .exec _ _ => false
  | .int _ _ => false

/-- The row after the one that `mip` names (40 R141). -/
def Mip.next : Mip → Mip
  | .exec op t => .exec op (t + 1)
  | .int k t => .int k (t + 1)
  | .fetch => .fetch
  | .jammed => .jammed

/-- The address of the stack's top cell, `$0100 | SP` (10 R21). -/
def Cpu.stackAddr (c : Cpu) : Word := cat 0x01#8 c.sp

/-! ## Rows (40 R140, R143) -/

/-- A row of a cycle template (R143): one read or one write, and its effect on the CPU. A read's effect is given the byte
read. -/
inductive Row where
  | read (addr : Cpu → Word) (effect : Byte → Cpu → Cpu)
  | write (addr : Cpu → Word) (value : Cpu → Byte) (effect : Cpu → Cpu)

/-- A read row "R addr -> ...". -/
abbrev readRow (addr : Cpu → Word) (k : Byte → Cpu → Cpu) : Row := .read addr k

/-- A write row "W addr <- v". -/
abbrev writeRow (addr : Cpu → Word) (val : Cpu → Byte) (k : Cpu → Cpu) : Row := .write addr val k

/-- A dummy read whose byte is not used. -/
def dummyRow (addr : Cpu → Word) (k : Cpu → Cpu) : Row := readRow addr fun _ => k

/-- The CPU with `mip` moved to the next row (40 R141); a row's effect is applied after that. -/
def Cpu.nextRow (c : Cpu) : Cpu := { c with mip := c.mip.next }

/-- The fetch micro-cycle with no interrupt pending (40 R142, T1). -/
def fetchRow : Row :=
  readRow (·.pc) fun v c =>
    { c with pcFrozen := c.pc, pc := c.pc + 1, mip := .exec v 2, stalled := false }

/-- The fetch micro-cycle that starts an interrupt sequence (40 R142, T1; 60 R412 t = 1): the opcode is discarded, PC
stays, the pending bits are cleared and an NMI edge is consumed. -/
def intFetchRow (k : IntKind) : Row :=
  dummyRow (·.pc) fun c =>
    match k with
    | .nmi =>
      { c with pcFrozen := c.pc, doNmi := false, doIrq := false, mip := .int .nmi 2, stalled := false,
               lines := { c.lines with nmiEdge := { cur := false, delayed := false } } }
    | .irq => { c with pcFrozen := c.pc, doIrq := false, mip := .int .irq 2, stalled := false }

/-! ## Stack (10 R21) -/

/-- "W $01:SP <- v ; SP--". -/
def pushRow (val : Cpu → Byte) : Row :=
  writeRow Cpu.stackAddr val fun c => { c with sp := c.sp - 1 }

/-- "R $01:SP (dummy) ; SP++". -/
def popDummyRow : Row := dummyRow Cpu.stackAddr fun c => { c with sp := c.sp + 1 }

/-! ## Taking an exception (60 R412, R413; 45 R275; 40 R175) -/

/-- The vectors of 60 R415. -/
def IntKind.vector : IntKind → Word
  | .nmi => 0xFFFA#16
  | .irq => 0xFFFE#16

/-- The shared entry: push PCH, PCL and P with the given B bit, set I while the vector's low byte is read, then jump
through the vector. D is not cleared; nothing polls. -/
def entryRows (b : Bool) (vec : Word) : List Row :=
  [pushRow (fun c => hi c.pc), pushRow (fun c => lo c.pc), pushRow (fun c => c.p.push b),
   readRow (fun _ => vec) (fun v c => { c with adl := v, p := { c.p with i := true } }),
   readRow (fun _ => vec + 1) (fun v c => ({ c with adh := v, pc := cat v c.adl } : Cpu).done)]

/-- The interrupt sequence after its first cycle (60 R412, t = 2 to 7). -/
def intRows (k : IntKind) : List Row := dummyRow (·.pc) id :: entryRows false k.vector

/-- `T_BRK` after the fetch (40 R175): the padding byte is read and skipped, then the entry with B = 1 through the IRQ
vector. -/
def brkRows : List Row := dummyRow (·.pc) (fun c => { c with pc := c.pc + 1 }) :: entryRows true 0xFFFE#16

/-- `T_RTI` after the fetch (40 R174; 45 R274): P, then PCL, PCH; the poll sees the restored I. -/
def rtiRows : List Row :=
  [dummyRow (·.pc) id, popDummyRow,
   readRow Cpu.stackAddr (fun v c => { c with p := Flags.pull v, sp := c.sp + 1 }),
   readRow Cpu.stackAddr (fun v c => { c with d := v, sp := c.sp + 1 }),
   readRow Cpu.stackAddr (fun v c => ({ c with pc := cat v c.d } : Cpu).poll.done)]

end Sys2Proof.Machine
end

