-- ==== Sys2Proof/Machine/Port.lean ====
section
/-! DEFINITION. The processor port of the 6510 at `$0000`, `$0001` (10_state.md R34 to R37): direction and data registers,
the pins seen by input bits, the capacitor bits 3, 6, 7, and the lines that select banks. -/

namespace Sys2Proof.Machine

/-- A byte from its bits, bit 7 first. -/
def byteOfBits (b7 b6 b5 b4 b3 b2 b1 b0 : Bool) : Byte :=
  BitVec.ofBool b7 ++ BitVec.ofBool b6 ++ BitVec.ofBool b5 ++ BitVec.ofBool b4 ++ BitVec.ofBool b3 ++ BitVec.ofBool b2 ++
    BitVec.ofBool b1 ++ BitVec.ofBool b0

/-- A port's eight lines: the output latch where the direction bit is 1, the external level elsewhere (10 R35, 60 R464). -/
def mixBits (data dir ext : Byte) : Byte := (data &&& dir) ||| (ext &&& ~~~dir)

/-- `cap(k)` (R36): charged before its discharge cycle; the comparison is strict. -/
def charged (cycle stamp : BitVec 64) : Bool := decide (cycle < stamp)

/-- `cap(3)` (R36): 0 at once under the OPEN condition `bit3_strong_pulldown` (log 7). -/
def ProcPort.cap3 (cfg : Config) (cycle : BitVec 64) (p : ProcPort) : Bool :=
  charged cycle p.discharge3 && !cfg.bit3Pulldown.contains (p.dir, p.data)

/-- `ext` (R35): bits 0 to 2 pulled up, bit 4 is 0 while a datasette key is pressed, bit 5 is 0, the rest capacitors. -/
def ProcPort.ext (cfg : Config) (cycle : BitVec 64) (key : Bool) (p : ProcPort) : Byte :=
  byteOfBits (charged cycle p.discharge7) (charged cycle p.discharge6) false (!key) (p.cap3 cfg cycle) true true true

/-- A read of `$0001` (R35). -/
def ProcPort.readData (cfg : Config) (cycle : BitVec 64) (key : Bool) (p : ProcPort) : Byte :=
  mixBits p.data p.dir (p.ext cfg cycle key)

/-- The new discharge stamp of one bit when the direction byte `new` is written in cycle `c` (R36). -/
def ProcPort.discharge (c : BitVec 64) (delay k : Nat) (new : Byte) (old : BitVec 64) (p : ProcPort) : BitVec 64 :=
  if p.dir.getLsbD k && !new.getLsbD k then
    if p.data.getLsbD k then c + BitVec.ofNat 64 delay else 0#64
  else old

/-- A write of `$0000` in CPU cycle `c` (R36, R37). -/
def ProcPort.writeDir (cfg : Config) (c : BitVec 64) (new : Byte) (p : ProcPort) : ProcPort :=
  { p with dir := new,
           discharge3 := p.discharge c cfg.discharge3 3 new p.discharge3,
           discharge6 := p.discharge c cfg.discharge6 6 new p.discharge6,
           discharge7 := p.discharge c cfg.discharge7 7 new p.discharge7 }

/-- A write of `$0001` (R37). -/
def ProcPort.writeData (new : Byte) (p : ProcPort) : ProcPort := { p with data := new }

/-- `line[k]` for the banking lines (R37): an input bit is pulled up. -/
def ProcPort.line (k : Nat) (p : ProcPort) : Bool := !p.dir.getLsbD k || p.data.getLsbD k

/-- Whether the datasette motor runs: line 5 driven low (R34, R37; the sense of the line is PRESUMED, log 16). While the line
is an input the motor is off: the model's choice, R37 pulls lines 0 to 2 only (log 16). -/
def ProcPort.motorOn (p : ProcPort) : Bool := p.dir.getLsbD 5 && !p.data.getLsbD 5

end Sys2Proof.Machine
end

