-- ==== Sys2Proof/Machine/Cia.lean ====
section
/-! DEFINITION. One CIA 6526 or 8521 (60_exceptions.md R445 to R465): the delay pipeline, the timers, interrupt control,
time-of-day clock, serial register, ports, register reads and writes. `Cia.step` is the chip's cycle, run before the
CPU's (R440); register accesses come after it, so a write in cycle w is first seen by the step of cycle w+1. -/

namespace Sys2Proof.Machine

/-! ## The pipeline (R446 to R448; the bit positions are the parameter `cia_delay_bits`, log 10) -/

/-- A pipeline word with bit `k` set. -/
def pipeBit (k : Nat) : BitVec 64 := 1#64 <<< k

/-- Stages 0, 1, 2 of the chain at `k`. -/
def pipeBits3 (k : Nat) : BitVec 64 := 7#64 <<< k

/-- `DELAY_MASK` (R447): stages 1 and above of the named chains. Stage 0 positions and unnamed bits are cleared. -/
def ciaDelayMask (b : CiaDelayBits) : BitVec 64 := b.laterStages.foldl (fun m k => m ||| pipeBit k) 0#64

/-- Whether bit `k` of a pipeline word is set. Here and below the empty word has a case of its own: what a CIA at rest
does can then be evaluated although the positions are open. -/
def pipeHas (k : Nat) (w : BitVec 64) : Bool := w != 0#64 && w.getLsbD k

/-- Whether pipeline bit `k` is set. -/
def Cia.has (k : Nat) (c : Cia) : Bool := pipeHas k c.delay

/-- Set bit `k` of the pipeline. -/
def Cia.arm (k : Nat) (c : Cia) : Cia := { c with delay := c.delay ||| pipeBit k }

/-- The word `w` with bit `k` as given. -/
def setPipe (k : Nat) (on : Bool) (w : BitVec 64) : BitVec 64 :=
  if on then w ||| pipeBit k else if w = 0#64 then w else w &&& ~~~pipeBit k

/-- The pipeline update at the end of a cycle: the formula of P6 (R447). -/
def Cia.shiftPipe (b : CiaDelayBits) (c : Cia) : Cia :=
  { c with delay := if c.delay = 0#64 then c.feed else ((c.delay <<< 1) &&& ciaDelayMask b) ||| c.feed }

/-! ## Interrupt control (R455 to R459) -/

/-- The pending flags that are enabled. -/
def Cia.enabled (c : Cia) : Byte := c.icr &&& c.imr &&& 0x1F#8

/-- Clearing of acknowledged flags and the interrupt output: the 6526 clears and releases in the cycle after a read
(`ClearIcr1`, `ClearInt0`, R456), the 8521 over two cycles, keeping a flag that fires meanwhile (`AckIcr1`, R458). A pull
armed in cycle u acts in u+1 (`SetInt1`, R449). -/
def Cia.interruptPhase (b : CiaDelayBits) (c : Cia) : Cia :=
  let ackDone := c.has (b.ackIcr + 1)
  let late := if c.has (b.setIcr + 1) then c.icrNext else 0#8
  let icr := if c.has (b.clearIcr + 1) then 0#8 else if ackDone then c.icr &&& ~~~c.icrAck else c.icr
  { c with icr := icr ||| late,
           icrAck := if ackDone then 0#8 else c.icrAck &&& ~~~late,
           irqOut := if c.has b.clearInt || ackDone then false else c.irqOut || c.has (b.setInt + 1) }

/-- Record the flags that fired in this cycle: at once on the 6526, one cycle later on the 8521 (R449, R458); then arm
the interrupt output if an enabled flag is pending and the line is not yet pulled (R455). So an IMR write in cycle w that
enables a pending flag is armed in w+1 and pulls the line in w+2: the model's choice, R455 gives no latency (log 14). -/
def Cia.raise (cfg : Config) (fired : Byte) (c : Cia) : Cia :=
  let c := match cfg.ciaModel with
    | .mos6526 => { c with icr := c.icr ||| fired, tbFresh := fired.getLsbD 1 && !c.icr.getLsbD 1 }
    | .mos8521 =>
      if fired = 0#8 then { c with icrNext := 0#8, tbFresh := false }
      else { c with icrNext := fired, tbFresh := false }.arm cfg.ciaDelayBits.setIcr
  if c.enabled ≠ 0#8 && !c.irqOut then c.arm cfg.ciaDelayBits.setInt else c

/-! ## Timers (R449 to R453) -/

/-- One timer in one cycle: the new counter, and whether it underflows. `load`, `count3`, `count2` are pipeline bits,
`clock` says that it counts every cycle (R449), else `pulse` that this cycle has a count pulse. A forced load replaces the
decrement; a counter at 0 that would count underflows. Of pulses the one that finds 0 underflows and reloads at once, so
that the period is L + 1 pulses: the model's choice, the spec gives a period in cycles only (log 11). -/
def timerTick (clock load count3 count2 pulse : Bool) (counter latch : Word) : Word × Bool :=
  if clock then
    let v := if load then latch else if count3 && counter != 0#16 then counter - 1 else counter
    (v, v == 0#16 && (count3 || (load && count2)))
  else if load then (latch, false)
  else if count3 && pulse then (if counter = 0#16 then latch else counter - 1, counter == 0#16)
  else (counter, false)

/-- A rising edge of CNT (R450; the edge sense is PRESUMED, log 12). -/
def Cia.cntEdge (c : Cia) : Bool := c.cnt && !c.cntPrev

/-- Whether timer A counts clock cycles (R450); else it counts CNT edges. -/
def Cia.clockA (c : Cia) : Bool := !c.cra.getLsbD 5

/-- Whether timer B counts clock cycles (R451). -/
def Cia.clockB (c : Cia) : Bool := !c.crb.getLsbD 6 && !c.crb.getLsbD 5

/-- The count pulses of timer B otherwise (R451), given timer A's underflow of this cycle. -/
def Cia.pulseSourceB (ta : Bool) (c : Cia) : Bool :=
  match c.crb.getLsbD 6, c.crb.getLsbD 5 with
  | false, _ => c.cntEdge
  | true, false => ta
  | true, true => ta && c.cnt

/-- Whether a one-shot chain is set, in the pipeline or about to enter it (`OneShotA0`, `OneShotB0`; log 10). -/
def Cia.oneShot (k : Nat) (c : Cia) : Bool := pipeHas k (c.delay ||| c.feed)

/-- The pipeline after a timer's cycle: an underflow arms the end of the output pulse and, of a timer that counts the clock,
the reload (R450, R453); a one-shot stop drops the counts under way. -/
def underflowPipe (count load low : Nat) (clock under stop : Bool) (delay : BitVec 64) : BitVec 64 :=
  let d := if under then delay ||| pipeBit low else delay
  let d := if under && clock then d ||| pipeBit load else d
  if stop then d &&& ~~~pipeBits3 count else d

/-- Timer A's cycle with the underflow actions of R453: output, one-shot stop, reload, serial clock. The toggle output flips
at every underflow, while OUTMODE selects the pulse too: the model's choice (log 46). -/
def Cia.timerA (b : CiaDelayBits) (c : Cia) : Cia :=
  let r := timerTick c.clockA (c.has (b.loadA + 1)) (c.has (b.countA + 3)) (c.has (b.countA + 2)) c.cntEdge c.counterA
    c.latchA
  let stop := r.2 && c.oneShot b.oneShotA
  let delay := underflowPipe b.countA b.loadA b.pb6Low c.clockA r.2 stop c.delay
  { c with counterA := r.1, taOut := r.2, toggleA := c.toggleA != r.2,
           pulseA := r.2 || (c.pulseA && !c.has (b.pb6Low + 1)),
           cra := if stop then c.cra &&& 0xFE#8 else c.cra,
           feed := if stop then c.feed &&& ~~~pipeBit b.countA else c.feed,
           delay := if r.2 && c.cra.getLsbD 6 then delay ||| pipeBit b.serClk else delay }

/-- Timer B's cycle (R451, R453), after timer A's; its toggle output as timer A's (log 46). -/
def Cia.timerB (b : CiaDelayBits) (c : Cia) : Cia :=
  let r := timerTick c.clockB (c.has (b.loadB + 1)) (c.has (b.countB + 3)) (c.has (b.countB + 2))
    (c.pulseSourceB c.taOut) c.counterB c.latchB
  let stop := r.2 && c.oneShot b.oneShotB
  { c with counterB := r.1, tbOut := r.2, toggleB := c.toggleB != r.2,
           pulseB := r.2 || (c.pulseB && !c.has (b.pb7Low + 1)),
           crb := if stop then c.crb &&& 0xFE#8 else c.crb,
           feed := if stop then c.feed &&& ~~~pipeBit b.countB else c.feed,
           delay := underflowPipe b.countB b.loadB b.pb7Low c.clockB r.2 stop c.delay }

/-! ## Time of day (R460 to R463) -/

/-- A BCD byte counting 00 to 59; the flag says that it wrapped. How a byte that is not one of these counts on is the
model's choice: a low digit 9 carries, any other byte goes up by 1 (log 47). -/
def bcdInc60 (v : Byte) : Byte × Bool :=
  if v = 0x59#8 then (0#8, true)
  else if v &&& 0x0F#8 = 0x09#8 then ((v &&& 0xF0#8) + 0x10#8, false)
  else (v + 1, false)

/-- Hours: 12, 1, 2, .., 11, PM (bit 7) toggling at 11 to 12. Other hours go up by 1 in five bits: the model's choice
(log 47). -/
def todHourInc (v : Byte) : Byte :=
  let h := v &&& 0x1F#8
  let pm := v &&& 0x80#8
  if h = 0x12#8 then pm ||| 0x01#8
  else if h = 0x11#8 then (pm ^^^ 0x80#8) ||| 0x12#8
  else if h = 0x09#8 then pm ||| 0x10#8
  else pm ||| ((h + 1) &&& 0x1F#8)

/-- One tenth of a second passes. Tenths past 9 go up to 15 and then to 0 with no carry: the model's choice (log 47). -/
def TodTime.tenth (t : TodTime) : TodTime :=
  if t.tenths = 0x09#8 then
    let s := bcdInc60 t.seconds
    let m := if s.2 then bcdInc60 t.minutes else (t.minutes, false)
    { hours := if m.2 then todHourInc t.hours else t.hours, minutes := m.1, seconds := s.1, tenths := 0#8 }
  else { t with tenths := (t.tenths + 1) &&& 0x0F#8 }

/-- One 50/60 Hz tick through the divider: 5 ticks a tenth with TODIN = 1, else 6 (R460). While the clock is stopped the
divider keeps its count, and a restart goes on from it; a count that a change of TODIN leaves at or past the new limit
overflows at the next tick: both the model's choice, R460 and R461 do not say (log 15). -/
def Tod.tick (fifty : Bool) (t : Tod) : Tod :=
  if t.stopped then t
  else if t.divider + 1 ≥ (if fifty then 5 else 6) then { t with divider := 0, time := t.time.tenth }
  else { t with divider := t.divider + 1 }

/-- The clock's part of a CIA cycle: a waiting tick is consumed, then the alarm is compared; `TODInt0` is the rising edge
of the match in this cycle (R463). -/
def Cia.todPhase (b : CiaDelayBits) (c : Cia) : Cia :=
  let t := if c.todTick then c.tod.tick (c.cra.getLsbD 7) else c.tod
  let m := t.time == t.alarm
  { c with todTick := false, tod := { t with matched := m }, delay := setPipe b.todInt (m && !c.tod.matched) c.delay }

/-! ## Serial register (R453 (6), R464; log 13) -/

/-- `SerLoad1` starts a transfer of SDR; while one runs it waits, by entering its chain again (log 13). -/
def Cia.serialLoad (b : CiaDelayBits) (c : Cia) : Cia :=
  if c.has (b.serLoad + 1) then
    if c.serCount = 0#4 then { c with shiftReg := c.sdr, serCount := 8#4 } else c.arm b.serLoad
  else c

/-- Output: timer A's underflows shift one bit out, most significant bit first. The SP pin has one level for both modes: a
bit put out replaces the level that the host holds, until the host sets the pin again; the model's choice (log 13). -/
def Cia.serialOut (b : CiaDelayBits) (c : Cia) : Cia × Bool :=
  let c := c.serialLoad b
  if c.has (b.serClk + 2) && c.serCount != 0#4 then
    ({ c with sp := c.shiftReg.getLsbD 7, shiftReg := c.shiftReg <<< 1, serCount := c.serCount - 1 }, c.serCount == 1#4)
  else (c, false)

/-- Input: each rising CNT edge shifts the SP level in; eight bits make a byte. -/
def Cia.serialIn (c : Cia) : Cia × Bool :=
  if c.cntEdge then
    let v := (c.shiftReg <<< 1) ||| (BitVec.ofBool c.sp).setWidth 8
    if c.serCount = 7#4 then ({ c with shiftReg := v, sdr := v, serCount := 0#4 }, true)
    else ({ c with shiftReg := v, serCount := c.serCount + 1 }, false)
  else (c, false)

/-- The serial register's part of a cycle, and whether its flag fires. -/
def Cia.serialPhase (b : CiaDelayBits) (c : Cia) : Cia × Bool := if c.cra.getLsbD 6 then c.serialOut b else c.serialIn

/-! ## The cycle -/

/-- The flags of R455 that fire in a cycle: timer A, timer B, alarm (the rising edge of the match, R463), serial, FLAG. -/
def ciaFired (ta tb alarm ser flag : Bool) : Byte := byteOfBits false false false flag ser alarm tb ta

/-- What the chip does in a cycle, before the pipeline moves. The FLAG pin fires on its falling edge: the model's choice, R455
names the pin only (log 12). -/
def Cia.act (cfg : Config) (c : Cia) : Cia :=
  let b := cfg.ciaDelayBits
  let t := (((c.interruptPhase b).timerA b).timerB b).todPhase b
  let s := t.serialPhase b
  let fired := ciaFired t.taOut t.tbOut (t.has b.todInt) s.2 (c.flagPrev && !c.flagPin)
  { s.1.raise cfg fired with cntPrev := c.cnt, flagPrev := c.flagPin }

/-- One CIA cycle (R440, R447). -/
def Cia.step (cfg : Config) (c : Cia) : Cia := (c.act cfg).shiftPipe cfg.ciaDelayBits

/-! ## Ports (R445, R464) -/

/-- Observed port A with the given external levels. They do not depend on what port B drives: keyboard and joysticks are
held by the host, the model's choice (log 48). -/
def Cia.portA (ext : Byte) (c : Cia) : Byte := mixBits c.pra c.ddra ext

/-- The level of a timer output: the toggle flip-flop, or the one-cycle pulse (R450, R452). -/
def timerOutput (cr : Byte) (toggle pulse : Bool) : Bool := if cr.getLsbD 2 then toggle else pulse

/-- Observed port B: PB6 and PB7 carry the timer outputs when PBON is set (R445, R452). The external levels do not depend on
what port A drives (log 48). -/
def Cia.portB (c : Cia) : Byte :=
  let v := mixBits c.prb c.ddrb c.extB
  let v := if c.cra.getLsbD 1 then
      (v &&& 0xBF#8) ||| (if timerOutput c.cra c.toggleA c.pulseA then 0x40#8 else 0#8) else v
  if c.crb.getLsbD 1 then (v &&& 0x7F#8) ||| (if timerOutput c.crb c.toggleB c.pulseB then 0x80#8 else 0#8) else v

/-! ## Register reads (R445, R456, R462) -/

/-- The time that TOD reads see: the latch while frozen. -/
def Tod.shown (t : Tod) : TodTime := if t.frozen then t.latch else t.time

/-- Reading hours freezes all fields. -/
def Tod.freeze (t : Tod) : Tod := if t.frozen then t else { t with frozen := true, latch := t.time }

/-- The ICR as a read in this cycle sees it: the 6526's timer B bug loses bit 1 if the underflow of this very cycle set it;
a bit 1 still pending from an earlier underflow stays (R457). -/
def Cia.icrSeen (cfg : Config) (c : Cia) : Byte :=
  if cfg.ciaModel == .mos6526 && cfg.ciaTimerBBug && c.tbFresh then c.icr &&& 0xFD#8 else c.icr

/-- A read of the ICR (R456, R458): the pending byte with bit 7, and the acknowledge put into the pipeline. -/
def Cia.readIcr (cfg : Config) (c : Cia) : Byte × Cia :=
  let b := cfg.ciaDelayBits
  let c := { c with icr := c.icrSeen cfg }.arm b.readIcr
  (c.icr ||| (if c.enabled = 0#8 then 0#8 else 0x80#8),
    match cfg.ciaModel with
    | .mos6526 => (c.arm (b.clearIcr + 1)).arm b.clearInt
    | .mos8521 => { c with icrAck := c.icrAck ||| c.icr }.arm b.ackIcr)

/-- A CPU read of register `r` (R445); `ext` is the external level of port A. `$C` gives the byte written or received, never
the partly shifted register of a transfer: the model's choice (log 13). -/
def Cia.read (cfg : Config) (ext : Byte) (r : Nat) (c : Cia) : Byte × Cia :=
  match r with
  | 0 => (c.portA ext, c)
  | 1 => (c.portB, c)
  | 2 => (c.ddra, c)
  | 3 => (c.ddrb, c)
  | 4 => (lo c.counterA, c)
  | 5 => (hi c.counterA, c)
  | 6 => (lo c.counterB, c)
  | 7 => (hi c.counterB, c)
  | 8 => (c.tod.shown.tenths, { c with tod := { c.tod with frozen := false } })
  | 9 => (c.tod.shown.seconds, c)
  | 10 => (c.tod.shown.minutes, c)
  | 11 => (c.tod.shown.hours, { c with tod := c.tod.freeze })
  | 12 => (c.sdr, c)
  | 13 => c.readIcr cfg
  | 14 => (c.cra, c)
  | _ => (c.crb, c)

/-! ## Register writes (R445, R449, R452, R455, R461) -/

/-- The pipeline after a write of START and LOAD, with the latencies of R449's table: a start counts from the second cycle
on, a stop lets one more cycle count, a load acts in the next cycle. For these the stages `Count0..2` and `Load1` are armed
at once: the model's choice, since R449's sentence that a write sets stage 0 bits would act later than its table (log 10).
`count`, `load` are the timer's chains. -/
def pipeControl (count load : Nat) (old new : Byte) (delay : BitVec 64) : BitVec 64 :=
  let d := if new.getLsbD 0 && !old.getLsbD 0 then delay ||| pipeBits3 count
    else if !new.getLsbD 0 && old.getLsbD 0 then delay &&& ~~~pipeBits3 count else delay
  if new.getLsbD 4 then d ||| pipeBit (load + 1) else d

/-- The feed word after a control write: a running timer feeds `Count0`, the one-shot mode feeds `OneShot0`. -/
def feedControl (count oneShot : Nat) (new : Byte) (feed : BitVec 64) : BitVec 64 :=
  setPipe oneShot (new.getLsbD 3) (setPipe count (new.getLsbD 0) feed)

/-- A write of CRA (R452). A start sets the toggle output high: the model's choice, R453 gives no level (log 46). -/
def Cia.writeCra (b : CiaDelayBits) (v : Byte) (c : Cia) : Cia :=
  { c with delay := pipeControl b.countA b.loadA c.cra v c.delay, feed := feedControl b.countA b.oneShotA v c.feed,
           toggleA := if v.getLsbD 0 && !c.cra.getLsbD 0 then true else c.toggleA,
           serCount := if v.getLsbD 6 == c.cra.getLsbD 6 then c.serCount else 0#4,
           cra := v &&& 0xEF#8 }

/-- A write of CRB (R452). A start sets the toggle output high, as in `writeCra` (log 46). -/
def Cia.writeCrb (b : CiaDelayBits) (v : Byte) (c : Cia) : Cia :=
  { c with delay := pipeControl b.countB b.loadB c.crb v c.delay, feed := feedControl b.countB b.oneShotB v c.feed,
           toggleB := if v.getLsbD 0 && !c.crb.getLsbD 0 then true else c.toggleB,
           crb := v &&& 0xEF#8 }

/-- A write of latch A's high byte; on a stopped timer it also loads the counter (R445). -/
def Cia.writeLatchHiA (b : CiaDelayBits) (v : Byte) (c : Cia) : Cia :=
  let c := { c with latchA := cat v (lo c.latchA) }
  if c.cra.getLsbD 0 then c else c.arm (b.loadA + 1)

/-- A write of latch B's high byte. -/
def Cia.writeLatchHiB (b : CiaDelayBits) (v : Byte) (c : Cia) : Cia :=
  let c := { c with latchB := cat v (lo c.latchB) }
  if c.crb.getLsbD 0 then c else c.arm (b.loadB + 1)

/-- A write of a TOD register, to the alarm when `alarm` (R461): hours stop the clock, tenths restart it. The bits kept are
the model's choice: the digits' own, four of the tenths and seven of seconds and minutes (log 47). -/
def Tod.write (alarm : Bool) (r : Nat) (v : Byte) (t : Tod) : Tod :=
  let set (x : TodTime) : TodTime :=
    match r with
    | 8 => { x with tenths := v &&& 0x0F#8 }
    | 9 => { x with seconds := v &&& 0x7F#8 }
    | 10 => { x with minutes := v &&& 0x7F#8 }
    | _ => { x with hours := v &&& 0x9F#8 }
  if alarm then { t with alarm := set t.alarm }
  else { t with time := set t.time, stopped := if r = 8 then false else if r = 11 then true else t.stopped }

/-- A write of the IMR through `$D`: bit 7 says set or clear (R455). -/
def imrWrite (imr v : Byte) : Byte :=
  if v.getLsbD 7 then imr ||| (v &&& 0x1F#8) else imr &&& ~~~(v &&& 0x1F#8)

/-- A write of SDR; in output mode it starts a transfer (R445). -/
def Cia.writeSdr (b : CiaDelayBits) (v : Byte) (c : Cia) : Cia :=
  if c.cra.getLsbD 6 then { c with sdr := v }.arm b.serLoad else { c with sdr := v }

/-- A CPU write of register `r` (R445). -/
def Cia.write (cfg : Config) (r : Nat) (v : Byte) (c : Cia) : Cia :=
  let b := cfg.ciaDelayBits
  match r with
  | 0 => { c with pra := v }
  | 1 => { c with prb := v }
  | 2 => { c with ddra := v }
  | 3 => { c with ddrb := v }
  | 4 => { c with latchA := cat (hi c.latchA) v }
  | 5 => c.writeLatchHiA b v
  | 6 => { c with latchB := cat (hi c.latchB) v }
  | 7 => c.writeLatchHiB b v
  | 8 => { c with tod := c.tod.write (c.crb.getLsbD 7) 8 v }
  | 9 => { c with tod := c.tod.write (c.crb.getLsbD 7) 9 v }
  | 10 => { c with tod := c.tod.write (c.crb.getLsbD 7) 10 v }
  | 11 => { c with tod := c.tod.write (c.crb.getLsbD 7) 11 v }
  | 12 => c.writeSdr b v
  | 13 => { c with imr := imrWrite c.imr v }
  | 14 => c.writeCra b v
  | _ => c.writeCrb b v

end Sys2Proof.Machine
end

