-- ==== Sys2Proof/Machine/Gcr.lean ====
section
/-! DEFINITION. The GCR code and the disk's sector layout (60_exceptions.md R523 to R526). -/

namespace Sys2Proof.Machine

/-- The 5-bit code of a nibble (R523). -/
def gcrCode (table : List (BitVec 5)) (n : BitVec 4) : BitVec 5 := table.getD n.toNat 0#5

/-- A byte is encoded high nibble first into 10 bits (R523). -/
def encodeGcr (table : List (BitVec 5)) (b : Byte) : BitVec 10 :=
  gcrCode table (b.extractLsb' 4 4) ++ gcrCode table (b.extractLsb' 0 4)

/-- The nibble a code stands for; none for a code that is not in the table (log 31). -/
def gcrNibble (table : List (BitVec 5)) (c : BitVec 5) : Option (BitVec 4) :=
  (table.idxOf? c).map fun k => BitVec.ofNat 4 k

/-- `decodeGcr` (R523, P4). -/
def decodeGcr (table : List (BitVec 5)) (w : BitVec 10) : Option Byte :=
  match gcrNibble table (w.extractLsb' 5 5), gcrNibble table (w.extractLsb' 0 5) with
  | some h, some l => some (h ++ l)
  | _, _ => none

/-- The bits of a word, most significant first. -/
def bitsMsb (n : Nat) (w : BitVec n) : List Bool := (List.range n).map fun k => w.getLsbD (n - 1 - k)

/-- A sequence of bytes as GCR bits. -/
def gcrBits (table : List (BitVec 5)) (bs : List Byte) : List Bool := bs.flatMap fun b => bitsMsb 10 (encodeGcr table b)

/-- SYNC: 40 one-bits (R524). -/
def syncBits : List Bool := List.replicate 40 true

/-- The header gap: 9 bytes `$55`, not GCR-encoded (R524). -/
def headerGap : List Bool := (List.replicate 9 0x55#8).flatMap (bitsMsb 8)

/-- The exclusive or of a list of bytes. -/
def xorBytes (bs : List Byte) : Byte := bs.foldl (· ^^^ ·) 0#8

/-- The eight header bytes: `$08`, checksum, sector, track, id2, id1, `$0F`, `$0F` (R524). -/
def headerBytes (track sector id1 id2 : Byte) : List Byte :=
  [0x08#8, sector ^^^ track ^^^ id2 ^^^ id1, sector, track, id2, id1, 0x0F#8, 0x0F#8]

/-- The 260 data-block bytes: `$07`, 256 data bytes, checksum, `$00`, `$00` (R524). -/
def dataBytes (data : List Byte) : List Byte := 0x07#8 :: data ++ [xorBytes data, 0#8, 0#8]

/-- A sector without its tail gap (R524; the gap is 93 U20). -/
def sectorBits (table : List (BitVec 5)) (track sector id1 id2 : Byte) (data : List Byte) : List Bool :=
  syncBits ++ gcrBits table (headerBytes track sector id1 id2) ++ headerGap ++ syncBits ++ gcrBits table (dataBytes data)

/-- The speed zone of a DOS track (R514, R525). -/
def speedZone (track : Nat) : Nat := if track ≤ 17 then 3 else if track ≤ 24 then 2 else if track ≤ 30 then 1 else 0

/-- Sectors per track (R525). -/
def sectorsOnTrack (track : Nat) : Nat :=
  if track ≤ 17 then 21 else if track ≤ 24 then 19 else if track ≤ 30 then 18 else 17

/-- Nominal track length in bytes (R525). -/
def trackBytes (track : Nat) : Nat :=
  if track ≤ 17 then 7692 else if track ≤ 24 then 7142 else if track ≤ 30 then 6666 else 6250

/-- The halftrack of a DOS track (R526). -/
def halftrackOf (track : Nat) : Nat := 2 * track - 1

/-! ## Tracks and their analysis (R526, R528, 10 R43) -/

/-- The most bits a halftrack holds (R526). -/
def maxTrackBits : Nat := 7928 * 8

/-- A halftrack holds at most `maxTrackBits` bits, as many as its counter says (R526). -/
def Track.ok (t : Track) : Bool := decide (t.length ≤ maxTrackBits) && decide (t.bits.length = t.length)

/-- The bit at an offset, wrapping at the track's length. -/
def Track.bit (t : Track) (k : Nat) : Bool := t.bits.getD (k % t.length) false

/-- The GCR byte that starts at an offset. -/
def Track.byte (table : List (BitVec 5)) (t : Track) (k : Nat) : Option Byte :=
  decodeGcr table ((List.range 10).foldl (fun w j => (w <<< 1) ||| (BitVec.ofBool (t.bit (k + j))).setWidth 10) 0#10)

/-- `n` GCR bytes from an offset on. -/
def Track.bytes (table : List (BitVec 5)) (t : Track) (k n : Nat) : List (Option Byte) :=
  (List.range n).map fun j => t.byte table (k + 10 * j)

/-- Whether a block starts at an offset: its bit is 0 and the ten before it are 1, a SYNC (R517). -/
def Track.afterSync (t : Track) (k : Nat) : Bool :=
  !t.bit k && (List.range 10).all fun j => t.bit (k + 10 * t.length - 1 - j)

/-- Whether the decoded bytes are those of a block with a right checksum: five header bytes after the mark whose exclusive
or is 0, or 257 data bytes (R524). -/
def blockChecksum (bs : List (Option Byte)) : Bool := bs.all (·.isSome) && xorBytes (bs.filterMap id) == 0#8

/-- The block at an offset: header and data blocks have their own lengths (R524). -/
def Track.block (table : List (BitVec 5)) (t : Track) (k : Nat) : BlockInfo :=
  let mark := t.byte table k
  let n := if mark = some 0x08#8 then 5 else if mark = some 0x07#8 then 257 else 0
  { start := k, mark := mark, checksumOk := n != 0 && blockChecksum (t.bytes table (k + 10) n) }

/-- An analysis pass over a halftrack: every block after a SYNC (R528). Its contents are the model's choice: a run of fewer
than ten ones is no SYNC and leaves no entry, a SYNC with no valid mark after it leaves one with that mark (log 44). -/
def Track.analyse (table : List (BitVec 5)) (h : Nat) (t : Track) : TrackAnalysis :=
  { halftrack := h, blocks := ((List.range t.length).filter t.afterSync).map (t.block table) }

/-- The host's analysis pass: it fills the cache and changes nothing else (10 R43, 60 R528). -/
def Disk.analyse (table : List (BitVec 5)) (h : Nat) (k : Disk) : Disk :=
  { k with analysis := (k.tracks[h - 1]?).map (Track.analyse table h) }

end Sys2Proof.Machine
end

