-- ==== Sys2Proof/Machine/Operands.lean ====
section
/-! DEFINITION. Every operand form: the addressing modes of 30_encoding.md R113 as the cycle templates of
40_datapath_cycles.md R151 to R177, each the list of rows after the fetch. The latches are used as 10_state.md R26 says:
`adl`, `adh` assemble the effective address, `idl` holds a zero-page pointer, `d` the operand. -/

namespace Sys2Proof.Machine

/-- The data operation of a class R instruction, on the operand delivered (40 R148). -/
abbrev ReadOp := Byte → Cpu → Cpu

/-- The data operation of a class M instruction: from the operand, the byte to write back and the CPU after. -/
abbrev ModifyOp := Byte → Cpu → Byte × Cpu

/-- The data operation of a class W instruction: the byte to store, and its effect on the CPU. -/
structure WriteOp where
  value : Cpu → Byte
  post : Cpu → Cpu

/-! ## Addresses from the latches -/

/-- `$00:ADL`. -/
def Cpu.zpAddr (c : Cpu) : Word := zext16 c.adl

/-- `ADH:ADL`. -/
def Cpu.absAddr (c : Cpu) : Word := cat c.adh c.adl

/-- `$00:IDL`. -/
def Cpu.ptrAddr (c : Cpu) : Word := zext16 c.idl

/-- `$00:(IDL +8 1)`: pointers wrap inside page zero (20 R87). -/
def Cpu.ptrAddr1 (c : Cpu) : Word := zext16 (c.idl + 1)

/-- `cross` of 40 R156 after the index was added to `adl`: the addition carried out of the low byte exactly when the
sum is below the index. -/
def Cpu.crossed (idx : Cpu → Byte) (c : Cpu) : Bool := decide (c.adl.toNat < (idx c).toNat)

/-! ## Operand rows -/

/-- "R PC -> ADL ; PC++". -/
def opLoRow : Row := readRow (·.pc) fun v c => { c with adl := v, pc := c.pc + 1 }

/-- "R PC -> ADH ; PC++". -/
def opHiRow : Row := readRow (·.pc) fun v c => { c with adh := v, pc := c.pc + 1 }

/-- "R PC -> ADH ; PC++ ; cross ; ADL <- ADL +8 idx" (40 R156). -/
def opHiIdxRow (idx : Cpu → Byte) : Row :=
  readRow (·.pc) fun v c => { c with adh := v, pc := c.pc + 1, adl := c.adl + idx c }

/-- "R PC -> IDL ; PC++" (40 R158). -/
def opPtrRow : Row := readRow (·.pc) fun v c => { c with idl := v, pc := c.pc + 1 }

/-- "R $00:ADL (dummy) ; ADL <- ADL +8 idx" (40 R154). -/
def zpIdxRow (idx : Cpu → Byte) : Row := dummyRow Cpu.zpAddr fun c => { c with adl := c.adl + idx c }

/-- "R $00:IDL (dummy) ; IDL <- IDL +8 X" (40 R158). -/
def ptrIdxRow : Row := dummyRow Cpu.ptrAddr fun c => { c with idl := c.idl + c.x }

/-- "R $00:IDL -> ADL". -/
def ptrLoRow : Row := readRow Cpu.ptrAddr fun v c => { c with adl := v }

/-- "R $00:(IDL +8 1) -> ADH". -/
def ptrHiRow : Row := readRow Cpu.ptrAddr1 fun v c => { c with adh := v }

/-- "R $00:(IDL +8 1) -> ADH ; cross ; ADL <- ADL +8 Y" (40 R159). -/
def ptrHiIdxRow : Row := readRow Cpu.ptrAddr1 fun v c => { c with adh := v, adl := c.adl + c.y }

/-! ## Data rows -/

/-- "R addr -> D ; poll ; exec(D) ; end". -/
def readEndRow (addr : Cpu → Word) (f : ReadOp) : Row :=
  readRow addr fun v c => (f v ({ c with d := v } : Cpu).poll).done

/-- "R ADH:ADL -> D": the last row if the index did not cross a page, else a dummy read one page below the target,
after which `ADH` is corrected (40 R156). -/
def readCrossRow (idx : Cpu → Byte) (f : ReadOp) : Row :=
  readRow Cpu.absAddr fun v c =>
    if c.crossed idx then { c with d := v, adh := c.adh + 1 } else (f v ({ c with d := v } : Cpu).poll).done

/-- "R ADH:ADL (dummy, uncorrected) ; if cross: ADH <- ADH +8 1" (40 R157). -/
def fixupRow (idx : Cpu → Byte) : Row :=
  dummyRow Cpu.absAddr fun c => if c.crossed idx then { c with adh := c.adh + 1 } else c

/-- "W addr <- exec() ; poll ; end". -/
def writeEndRow (addr : Cpu → Word) (w : WriteOp) : Row :=
  writeRow addr w.value fun c => (w.post c.poll).done

/-- "R addr -> D". -/
def readDataRow (addr : Cpu → Word) : Row := readRow addr fun v c => { c with d := v }

/-- "W addr <- D (the old value)". -/
def writeOldRow (addr : Cpu → Word) : Row := writeRow addr (·.d) id

/-- "W addr <- exec(D) ; poll ; end". -/
def writeNewRow (addr : Cpu → Word) (f : ModifyOp) : Row :=
  writeRow addr (fun c => (f c.d c).1) fun c => ((f c.d c.poll).2).done

/-- The three data rows of a read-modify-write (class M). -/
def modifyRows (addr : Cpu → Word) (f : ModifyOp) : List Row :=
  [readDataRow addr, writeOldRow addr, writeNewRow addr f]

/-! ## Templates by addressing mode and class -/

/-- `T_IMP` (R151). -/
def tImp (f : Cpu → Cpu) : List Row := [dummyRow (·.pc) fun c => (f c.poll).done]

/-- `T_IMM` (R152). -/
def tImm (f : ReadOp) : List Row :=
  [readRow (·.pc) fun v c => (f v ({ c with d := v, pc := c.pc + 1 } : Cpu).poll).done]

/-- `T_ZP_R`, `T_ZP_W`, `T_ZP_M` (R153). -/
def tZpR (f : ReadOp) : List Row := [opLoRow, readEndRow Cpu.zpAddr f]
def tZpW (w : WriteOp) : List Row := [opLoRow, writeEndRow Cpu.zpAddr w]
def tZpM (f : ModifyOp) : List Row := opLoRow :: modifyRows Cpu.zpAddr f

/-- `T_ZPX_R`, `T_ZPY_R` and the `_W`, `_M` forms (R154), by index register. -/
def tZpIdxR (idx : Cpu → Byte) (f : ReadOp) : List Row := [opLoRow, zpIdxRow idx, readEndRow Cpu.zpAddr f]
def tZpIdxW (idx : Cpu → Byte) (w : WriteOp) : List Row := [opLoRow, zpIdxRow idx, writeEndRow Cpu.zpAddr w]
def tZpIdxM (idx : Cpu → Byte) (f : ModifyOp) : List Row := opLoRow :: zpIdxRow idx :: modifyRows Cpu.zpAddr f

/-- `T_ABS_R`, `T_ABS_W`, `T_ABS_M` (R155). -/
def tAbsR (f : ReadOp) : List Row := [opLoRow, opHiRow, readEndRow Cpu.absAddr f]
def tAbsW (w : WriteOp) : List Row := [opLoRow, opHiRow, writeEndRow Cpu.absAddr w]
def tAbsM (f : ModifyOp) : List Row := opLoRow :: opHiRow :: modifyRows Cpu.absAddr f

/-- `T_ABX_R`, `T_ABY_R` (R156) and the `_W`, `_M` forms (R157), by index register. -/
def tAbsIdxR (idx : Cpu → Byte) (f : ReadOp) : List Row :=
  [opLoRow, opHiIdxRow idx, readCrossRow idx f, readEndRow Cpu.absAddr f]
def tAbsIdxW (idx : Cpu → Byte) (w : WriteOp) : List Row :=
  [opLoRow, opHiIdxRow idx, fixupRow idx, writeEndRow Cpu.absAddr w]
def tAbsIdxM (idx : Cpu → Byte) (f : ModifyOp) : List Row :=
  opLoRow :: opHiIdxRow idx :: fixupRow idx :: modifyRows Cpu.absAddr f

/-- `T_IZX_R`, `T_IZX_W`, `T_IZX_M` (R158). -/
def tIzxR (f : ReadOp) : List Row := [opPtrRow, ptrIdxRow, ptrLoRow, ptrHiRow, readEndRow Cpu.absAddr f]
def tIzxW (w : WriteOp) : List Row := [opPtrRow, ptrIdxRow, ptrLoRow, ptrHiRow, writeEndRow Cpu.absAddr w]
def tIzxM (f : ModifyOp) : List Row := opPtrRow :: ptrIdxRow :: ptrLoRow :: ptrHiRow :: modifyRows Cpu.absAddr f

/-- `T_IZY_R` (R159), `T_IZY_W`, `T_IZY_M` (R160). -/
def tIzyR (f : ReadOp) : List Row :=
  [opPtrRow, ptrLoRow, ptrHiIdxRow, readCrossRow (·.y) f, readEndRow Cpu.absAddr f]
def tIzyW (w : WriteOp) : List Row := [opPtrRow, ptrLoRow, ptrHiIdxRow, fixupRow (·.y), writeEndRow Cpu.absAddr w]
def tIzyM (f : ModifyOp) : List Row :=
  opPtrRow :: ptrLoRow :: ptrHiIdxRow :: fixupRow (·.y) :: modifyRows Cpu.absAddr f

/-! ## The unstable stores (47 R318; 40 R157) -/

/-- `H +8 1` of R318 at the write row: `ADH` holds `H`, already incremented if the index crossed a page. -/
def Cpu.highPlus1 (idx : Cpu → Byte) (c : Cpu) : Byte := if c.crossed idx then c.adh else c.adh + 1

/-- The byte an unstable store puts on the bus: `reg & (H +8 1)`, or a free value when an RDY stall fell inside the
instruction (93 U3, log 9). -/
def Cpu.unstableValue (idx reg : Cpu → Byte) (c : Cpu) : Byte :=
  if c.stalled then Config.unstableStore c.lines.cycle else reg c &&& c.highPlus1 idx

/-- The address rule of R318: on a page cross the high address byte is replaced by the value stored. -/
def Cpu.unstableAddr (idx reg : Cpu → Byte) (c : Cpu) : Word :=
  if c.crossed idx then cat (c.unstableValue idx reg) c.adl else c.absAddr

/-- The write row of SHA, SHX, SHY, TAS: `T_ABY_W`, `T_ABX_W` or `T_IZY_W` with the address change of R318. -/
def unstableRow (idx reg : Cpu → Byte) (post : Cpu → Cpu) : Row :=
  writeRow (Cpu.unstableAddr idx reg) (Cpu.unstableValue idx reg) fun c => (post c.poll).done

def tAbsIdxUnstable (idx reg : Cpu → Byte) (post : Cpu → Cpu) : List Row :=
  [opLoRow, opHiIdxRow idx, fixupRow idx, unstableRow idx reg post]

def tIzyUnstable (reg : Cpu → Byte) (post : Cpu → Cpu) : List Row :=
  [opPtrRow, ptrLoRow, ptrHiIdxRow, fixupRow (·.y), unstableRow (·.y) reg post]

/-! ## Control flow and stack templates -/

/-- The branch target: PC is the address of the next instruction, `d` the displacement (45 R276, 40 R170). -/
def Cpu.branchTarget (c : Cpu) : Word := c.pc + sext16 c.d

/-- `T_REL` (R170): the displacement goes to `D`, as R170 says, and to `IDL`, as 10 R26 says (log 45). It polls in cycle 2
and, in the OR form, in cycle 4. In cycle 4 `PC` is `hi(next):lo(target)`, and the target lies one page below or above by
the sign of the displacement. -/
def tRel (cond : Flags → Bool) : List Row :=
  [readRow (·.pc) (fun v c =>
     let c := ({ c with d := v, idl := v, pc := c.pc + 1 } : Cpu).poll
     if cond c.p then c else c.done),
   dummyRow (·.pc) (fun c =>
     let t := c.branchTarget
     if hi t = hi c.pc then ({ c with pc := t } : Cpu).done else { c with pc := cat (hi c.pc) (lo t) }),
   dummyRow (·.pc) (fun c =>
     let h := if c.d.getLsbD 7 then hi c.pc - 1 else hi c.pc + 1
     ({ c with pc := cat h (lo c.pc) } : Cpu).pollOr.done)]

/-- `T_JMP_ABS` (R171). -/
def tJmpAbs : List Row :=
  [opLoRow, readRow (·.pc) fun v c => ({ c with adh := v, pc := cat v c.adl } : Cpu).poll.done]

/-- `T_JMP_IND` (R172): the pointer's second byte comes from the same page. -/
def tJmpInd : List Row :=
  [opLoRow, opHiRow, readDataRow Cpu.absAddr,
   readRow (fun c => cat c.adh (c.adl + 1)) fun v c => ({ c with pc := cat v c.d } : Cpu).poll.done]

/-- `T_JSR` (R173): the high target byte is read after the pushes. -/
def tJsr : List Row :=
  [opLoRow, dummyRow Cpu.stackAddr id, pushRow (fun c => hi c.pc), pushRow (fun c => lo c.pc),
   readRow (·.pc) fun v c => ({ c with adh := v, pc := cat v c.adl } : Cpu).poll.done]

/-- `T_RTS` (R174). -/
def tRts : List Row :=
  [dummyRow (·.pc) id, popDummyRow,
   readRow Cpu.stackAddr (fun v c => { c with d := v, sp := c.sp + 1 }),
   readRow Cpu.stackAddr (fun v c => { c with pc := cat v c.d }),
   dummyRow (·.pc) (fun c => ({ c with pc := c.pc + 1 } : Cpu).poll.done)]

/-- `T_PUSH` (R176). -/
def tPush (val : Cpu → Byte) : List Row :=
  [dummyRow (·.pc) id, writeRow Cpu.stackAddr val fun c => ({ c with sp := c.sp - 1 } : Cpu).poll.done]

/-- `T_PULL` (R176): the poll uses the flags from before the pull. -/
def tPull (f : ReadOp) : List Row := [dummyRow (·.pc) id, popDummyRow, readEndRow Cpu.stackAddr f]

/-- `T_JAM` (R177; 60 R400). -/
def tJam : List Row :=
  [dummyRow (·.pc) fun c => { c with errorState := .illegal, mip := .jammed, jamFlag := true }]

end Sys2Proof.Machine
end

