-- ==== Sys2Proof/Machine/Alu.lean ====
section
/-! DEFINITION. The data operations `exec()` of the instructions (40_datapath_cycles.md R148), one per mnemonic, over the
flag computations of Flags.lean. Class R operations take the operand byte, class W give the byte to store, class M give
the byte to write back. -/

namespace Sys2Proof.Machine

/-! ## Loads, stores, transfers (41) -/

/-- 41 R200. -/
def aluLda : ReadOp := fun m c => { c with a := m, p := c.p.setNZ m }
/-- 41 R201. -/
def aluLdx : ReadOp := fun m c => { c with x := m, p := c.p.setNZ m }
/-- 41 R202. -/
def aluLdy : ReadOp := fun m c => { c with y := m, p := c.p.setNZ m }
/-- 41 R203: no flags. -/
def aluSta : WriteOp := { value := (·.a), post := id }
/-- 41 R204. -/
def aluStx : WriteOp := { value := (·.x), post := id }
/-- 41 R205. -/
def aluSty : WriteOp := { value := (·.y), post := id }
/-- 41 R206. -/
def aluTax (c : Cpu) : Cpu := { c with x := c.a, p := c.p.setNZ c.a }
/-- 41 R207. -/
def aluTay (c : Cpu) : Cpu := { c with y := c.a, p := c.p.setNZ c.a }
/-- 41 R208. -/
def aluTxa (c : Cpu) : Cpu := { c with a := c.x, p := c.p.setNZ c.x }
/-- 41 R209. -/
def aluTya (c : Cpu) : Cpu := { c with a := c.y, p := c.p.setNZ c.y }
/-- 41 R210. -/
def aluTsx (c : Cpu) : Cpu := { c with x := c.sp, p := c.p.setNZ c.sp }
/-- 41 R211: no flags. -/
def aluTxs (c : Cpu) : Cpu := { c with sp := c.x }

/-! ## Pulls (42) -/

/-- 42 R223: bits 5 and 4 ignored. -/
def aluPlp : ReadOp := fun m c => { c with p := Flags.pull m }

/-! ## Arithmetic (43) -/

/-- 43 R230, R231. -/
def aluAdc : ReadOp := fun m c => { c with a := (adc c.p c.a m).1, p := (adc c.p c.a m).2 }
/-- 43 R232, R233. -/
def aluSbc : ReadOp := fun m c => { c with a := (sbc c.p c.a m).1, p := (sbc c.p c.a m).2 }
/-- 43 R234. -/
def aluCmp : ReadOp := fun m c => { c with p := compare c.p c.a m }
/-- 43 R235. -/
def aluCpx : ReadOp := fun m c => { c with p := compare c.p c.x m }
/-- 43 R236. -/
def aluCpy : ReadOp := fun m c => { c with p := compare c.p c.y m }
/-- 43 R237. -/
def aluInc : ModifyOp := fun v c => (v + 1, { c with p := c.p.setNZ (v + 1) })
/-- 43 R238. -/
def aluDec : ModifyOp := fun v c => (v - 1, { c with p := c.p.setNZ (v - 1) })
/-- 43 R239. -/
def aluInx (c : Cpu) : Cpu := { c with x := c.x + 1, p := c.p.setNZ (c.x + 1) }
/-- 43 R240. -/
def aluIny (c : Cpu) : Cpu := { c with y := c.y + 1, p := c.p.setNZ (c.y + 1) }
/-- 43 R241. -/
def aluDex (c : Cpu) : Cpu := { c with x := c.x - 1, p := c.p.setNZ (c.x - 1) }
/-- 43 R242. -/
def aluDey (c : Cpu) : Cpu := { c with y := c.y - 1, p := c.p.setNZ (c.y - 1) }

/-! ## Logic, bit test, shifts (44) -/

/-- 44 R250. -/
def aluAnd : ReadOp := fun m c => { c with a := c.a &&& m, p := c.p.setNZ (c.a &&& m) }
/-- 44 R251. -/
def aluOra : ReadOp := fun m c => { c with a := c.a ||| m, p := c.p.setNZ (c.a ||| m) }
/-- 44 R252. -/
def aluEor : ReadOp := fun m c => { c with a := c.a ^^^ m, p := c.p.setNZ (c.a ^^^ m) }
/-- 44 R253. -/
def aluBit : ReadOp := fun m c => { c with p := bitTest c.p c.a m }

/-- A shift: the result's N and Z, and the carry shifted out (44 R254 to R257). -/
def shiftOp (f : Flags → Byte → Byte × Bool) : ModifyOp := fun v c =>
  ((f c.p v).1, { c with p := { c.p.setNZ (f c.p v).1 with c := (f c.p v).2 } })

/-- 44 R254. -/
def aluAsl : ModifyOp := shiftOp fun _ v => asl v
/-- 44 R255. -/
def aluLsr : ModifyOp := shiftOp fun _ v => lsr v
/-- 44 R256. -/
def aluRol : ModifyOp := shiftOp fun p v => rol p.c v
/-- 44 R257. -/
def aluRor : ModifyOp := shiftOp fun p v => ror p.c v

/-- The accumulator form of a shift (44 R254: `v = A; A <- r`). -/
def onA (f : ModifyOp) (c : Cpu) : Cpu := { (f c.a c).2 with a := (f c.a c).1 }

/-! ## Flags (46) -/

/-- 46 R290. -/
def aluClc (c : Cpu) : Cpu := { c with p := { c.p with c := false } }
/-- 46 R291. -/
def aluSec (c : Cpu) : Cpu := { c with p := { c.p with c := true } }
/-- 46 R292. -/
def aluCli (c : Cpu) : Cpu := { c with p := { c.p with i := false } }
/-- 46 R293. -/
def aluSei (c : Cpu) : Cpu := { c with p := { c.p with i := true } }
/-- 46 R294. -/
def aluCld (c : Cpu) : Cpu := { c with p := { c.p with d := false } }
/-- 46 R295. -/
def aluSed (c : Cpu) : Cpu := { c with p := { c.p with d := true } }
/-- 46 R296. -/
def aluClv (c : Cpu) : Cpu := { c with p := { c.p with v := false } }

/-! ## Undocumented (47) -/

/-- 47 R313: the operand is read and dropped. -/
def aluNop : ReadOp := fun _ c => c

/-- A shift without its N and Z: the carry only (47, the primitives before R300). -/
def carryOnly (r : Byte × Bool) (c : Cpu) : Cpu := { c with p := { c.p with c := r.2 } }

/-- 47 R300. -/
def aluSlo : ModifyOp := fun v c => ((asl v).1, aluOra (asl v).1 (carryOnly (asl v) c))
/-- 47 R301. -/
def aluRla : ModifyOp := fun v c => ((rol c.p.c v).1, aluAnd (rol c.p.c v).1 (carryOnly (rol c.p.c v) c))
/-- 47 R302. -/
def aluSre : ModifyOp := fun v c => ((lsr v).1, aluEor (lsr v).1 (carryOnly (lsr v) c))
/-- 47 R303: `ADC` uses the carry the rotate produced. -/
def aluRra : ModifyOp := fun v c => ((ror c.p.c v).1, aluAdc (ror c.p.c v).1 (carryOnly (ror c.p.c v) c))
/-- 47 R304. -/
def aluSax : WriteOp := { value := fun c => c.a &&& c.x, post := id }
/-- 47 R305. -/
def aluLax : ReadOp := fun m c => { c with a := m, x := m, p := c.p.setNZ m }
/-- 47 R306. -/
def aluDcp : ModifyOp := fun v c => (v - 1, aluCmp (v - 1) c)
/-- 47 R307. -/
def aluIsc : ModifyOp := fun v c => (v + 1, aluSbc (v + 1) c)
/-- 47 R308. -/
def aluAnc : ReadOp := fun m c =>
  { c with a := c.a &&& m, p := { c.p.setNZ (c.a &&& m) with c := (c.a &&& m).getLsbD 7 } }
/-- 47 R309. -/
def aluAlr : ReadOp := fun m c =>
  { c with a := (lsr (c.a &&& m)).1, p := { c.p.setNZ (lsr (c.a &&& m)).1 with c := (lsr (c.a &&& m)).2 } }
/-- 47 R310. -/
def aluArr : ReadOp := fun m c => { c with a := (arr c.p c.a m).1, p := (arr c.p c.a m).2 }
/-- 47 R311: as a compare of `A AND X`; `P.C` before and `P.D` have no influence. -/
def aluSbx : ReadOp := fun m c => { c with x := (c.a &&& c.x) - m, p := compare c.p (c.a &&& c.x) m }
/-- 47 R312: exactly `SBC`. -/
def aluUsbc : ReadOp := aluSbc
/-- 47 R315. -/
def aluLas : ReadOp := fun m c =>
  { c with a := m &&& c.sp, x := m &&& c.sp, sp := m &&& c.sp, p := c.p.setNZ (m &&& c.sp) }
/-- 47 R316, with the OPEN constant. -/
def aluAne (magic : Byte) : ReadOp := fun m c =>
  { c with a := (c.a ||| magic) &&& c.x &&& m, p := c.p.setNZ ((c.a ||| magic) &&& c.x &&& m) }
/-- 47 R317, with the OPEN constant. -/
def aluLxa (magic : Byte) : ReadOp := fun m c =>
  { c with a := (c.a ||| magic) &&& m, x := (c.a ||| magic) &&& m, p := c.p.setNZ ((c.a ||| magic) &&& m) }
/-- 47 R321: `SP <- A & X`; after an RDY stall inside the instruction too, the model's choice (R318, 93 U3; log 9). -/
def tasPost (c : Cpu) : Cpu := { c with sp := c.a &&& c.x }

end Sys2Proof.Machine
end

