-- ==== Sys2Proof/Machine/Microcode.lean ====
section
/-! DEFINITION. The 256-entry microcode table (10_state.md R27, 40_datapath_cycles.md R150): the rows after the fetch that
each opcode selects, and the row that the micro-instruction pointer names (R141). It runs the drive CPU, and the C64 CPU
when a step starts inside an instruction; the C64's instructions themselves have their meanings in the family files. -/

namespace Sys2Proof.Machine

/-- Opcodes $0x, by the low nibble. -/
def microcode0 (_cfg : Config) : Nat → List Row
  | 0 => brkRows
  | 1 => tIzxR aluOra
  | 2 => tJam
  | 3 => tIzxM aluSlo
  | 4 => tZpR aluNop
  | 5 => tZpR aluOra
  | 6 => tZpM aluAsl
  | 7 => tZpM aluSlo
  | 8 => tPush (·.p.push true)
  | 9 => tImm aluOra
  | 10 => tImp (onA aluAsl)
  | 11 => tImm aluAnc
  | 12 => tAbsR aluNop
  | 13 => tAbsR aluOra
  | 14 => tAbsM aluAsl
  | _ => tAbsM aluSlo

/-- Opcodes $1x, by the low nibble. -/
def microcode1 (_cfg : Config) : Nat → List Row
  | 0 => tRel fun p => !p.n
  | 1 => tIzyR aluOra
  | 2 => tJam
  | 3 => tIzyM aluSlo
  | 4 => tZpIdxR (·.x) aluNop
  | 5 => tZpIdxR (·.x) aluOra
  | 6 => tZpIdxM (·.x) aluAsl
  | 7 => tZpIdxM (·.x) aluSlo
  | 8 => tImp aluClc
  | 9 => tAbsIdxR (·.y) aluOra
  | 10 => tImp id
  | 11 => tAbsIdxM (·.y) aluSlo
  | 12 => tAbsIdxR (·.x) aluNop
  | 13 => tAbsIdxR (·.x) aluOra
  | 14 => tAbsIdxM (·.x) aluAsl
  | _ => tAbsIdxM (·.x) aluSlo

/-- Opcodes $2x, by the low nibble. -/
def microcode2 (_cfg : Config) : Nat → List Row
  | 0 => tJsr
  | 1 => tIzxR aluAnd
  | 2 => tJam
  | 3 => tIzxM aluRla
  | 4 => tZpR aluBit
  | 5 => tZpR aluAnd
  | 6 => tZpM aluRol
  | 7 => tZpM aluRla
  | 8 => tPull aluPlp
  | 9 => tImm aluAnd
  | 10 => tImp (onA aluRol)
  | 11 => tImm aluAnc
  | 12 => tAbsR aluBit
  | 13 => tAbsR aluAnd
  | 14 => tAbsM aluRol
  | _ => tAbsM aluRla

/-- Opcodes $3x, by the low nibble. -/
def microcode3 (_cfg : Config) : Nat → List Row
  | 0 => tRel fun p => p.n
  | 1 => tIzyR aluAnd
  | 2 => tJam
  | 3 => tIzyM aluRla
  | 4 => tZpIdxR (·.x) aluNop
  | 5 => tZpIdxR (·.x) aluAnd
  | 6 => tZpIdxM (·.x) aluRol
  | 7 => tZpIdxM (·.x) aluRla
  | 8 => tImp aluSec
  | 9 => tAbsIdxR (·.y) aluAnd
  | 10 => tImp id
  | 11 => tAbsIdxM (·.y) aluRla
  | 12 => tAbsIdxR (·.x) aluNop
  | 13 => tAbsIdxR (·.x) aluAnd
  | 14 => tAbsIdxM (·.x) aluRol
  | _ => tAbsIdxM (·.x) aluRla

/-- Opcodes $4x, by the low nibble. -/
def microcode4 (_cfg : Config) : Nat → List Row
  | 0 => rtiRows
  | 1 => tIzxR aluEor
  | 2 => tJam
  | 3 => tIzxM aluSre
  | 4 => tZpR aluNop
  | 5 => tZpR aluEor
  | 6 => tZpM aluLsr
  | 7 => tZpM aluSre
  | 8 => tPush (·.a)
  | 9 => tImm aluEor
  | 10 => tImp (onA aluLsr)
  | 11 => tImm aluAlr
  | 12 => tJmpAbs
  | 13 => tAbsR aluEor
  | 14 => tAbsM aluLsr
  | _ => tAbsM aluSre

/-- Opcodes $5x, by the low nibble. -/
def microcode5 (_cfg : Config) : Nat → List Row
  | 0 => tRel fun p => !p.v
  | 1 => tIzyR aluEor
  | 2 => tJam
  | 3 => tIzyM aluSre
  | 4 => tZpIdxR (·.x) aluNop
  | 5 => tZpIdxR (·.x) aluEor
  | 6 => tZpIdxM (·.x) aluLsr
  | 7 => tZpIdxM (·.x) aluSre
  | 8 => tImp aluCli
  | 9 => tAbsIdxR (·.y) aluEor
  | 10 => tImp id
  | 11 => tAbsIdxM (·.y) aluSre
  | 12 => tAbsIdxR (·.x) aluNop
  | 13 => tAbsIdxR (·.x) aluEor
  | 14 => tAbsIdxM (·.x) aluLsr
  | _ => tAbsIdxM (·.x) aluSre

/-- Opcodes $6x, by the low nibble. -/
def microcode6 (_cfg : Config) : Nat → List Row
  | 0 => tRts
  | 1 => tIzxR aluAdc
  | 2 => tJam
  | 3 => tIzxM aluRra
  | 4 => tZpR aluNop
  | 5 => tZpR aluAdc
  | 6 => tZpM aluRor
  | 7 => tZpM aluRra
  | 8 => tPull aluLda
  | 9 => tImm aluAdc
  | 10 => tImp (onA aluRor)
  | 11 => tImm aluArr
  | 12 => tJmpInd
  | 13 => tAbsR aluAdc
  | 14 => tAbsM aluRor
  | _ => tAbsM aluRra

/-- Opcodes $7x, by the low nibble. -/
def microcode7 (_cfg : Config) : Nat → List Row
  | 0 => tRel fun p => p.v
  | 1 => tIzyR aluAdc
  | 2 => tJam
  | 3 => tIzyM aluRra
  | 4 => tZpIdxR (·.x) aluNop
  | 5 => tZpIdxR (·.x) aluAdc
  | 6 => tZpIdxM (·.x) aluRor
  | 7 => tZpIdxM (·.x) aluRra
  | 8 => tImp aluSei
  | 9 => tAbsIdxR (·.y) aluAdc
  | 10 => tImp id
  | 11 => tAbsIdxM (·.y) aluRra
  | 12 => tAbsIdxR (·.x) aluNop
  | 13 => tAbsIdxR (·.x) aluAdc
  | 14 => tAbsIdxM (·.x) aluRor
  | _ => tAbsIdxM (·.x) aluRra

/-- Opcodes $8x, by the low nibble. -/
def microcode8 (cfg : Config) : Nat → List Row
  | 0 => tImm aluNop
  | 1 => tIzxW aluSta
  | 2 => tImm aluNop
  | 3 => tIzxW aluSax
  | 4 => tZpW aluSty
  | 5 => tZpW aluSta
  | 6 => tZpW aluStx
  | 7 => tZpW aluSax
  | 8 => tImp aluDey
  | 9 => tImm aluNop
  | 10 => tImp aluTxa
  | 11 => tImm (aluAne cfg.aneMagic)
  | 12 => tAbsW aluSty
  | 13 => tAbsW aluSta
  | 14 => tAbsW aluStx
  | _ => tAbsW aluSax

/-- Opcodes $9x, by the low nibble. -/
def microcode9 (_cfg : Config) : Nat → List Row
  | 0 => tRel fun p => !p.c
  | 1 => tIzyW aluSta
  | 2 => tJam
  | 3 => tIzyUnstable (fun c => c.a &&& c.x) id
  | 4 => tZpIdxW (·.x) aluSty
  | 5 => tZpIdxW (·.x) aluSta
  | 6 => tZpIdxW (·.y) aluStx
  | 7 => tZpIdxW (·.y) aluSax
  | 8 => tImp aluTya
  | 9 => tAbsIdxW (·.y) aluSta
  | 10 => tImp aluTxs
  | 11 => tAbsIdxUnstable (·.y) (fun c => c.a &&& c.x) tasPost
  | 12 => tAbsIdxUnstable (·.x) (·.y) id
  | 13 => tAbsIdxW (·.x) aluSta
  | 14 => tAbsIdxUnstable (·.y) (·.x) id
  | _ => tAbsIdxUnstable (·.y) (fun c => c.a &&& c.x) id

/-- Opcodes $Ax, by the low nibble. -/
def microcodeA (cfg : Config) : Nat → List Row
  | 0 => tImm aluLdy
  | 1 => tIzxR aluLda
  | 2 => tImm aluLdx
  | 3 => tIzxR aluLax
  | 4 => tZpR aluLdy
  | 5 => tZpR aluLda
  | 6 => tZpR aluLdx
  | 7 => tZpR aluLax
  | 8 => tImp aluTay
  | 9 => tImm aluLda
  | 10 => tImp aluTax
  | 11 => tImm (aluLxa cfg.lxaMagic)
  | 12 => tAbsR aluLdy
  | 13 => tAbsR aluLda
  | 14 => tAbsR aluLdx
  | _ => tAbsR aluLax

/-- Opcodes $Bx, by the low nibble. -/
def microcodeB (_cfg : Config) : Nat → List Row
  | 0 => tRel fun p => p.c
  | 1 => tIzyR aluLda
  | 2 => tJam
  | 3 => tIzyR aluLax
  | 4 => tZpIdxR (·.x) aluLdy
  | 5 => tZpIdxR (·.x) aluLda
  | 6 => tZpIdxR (·.y) aluLdx
  | 7 => tZpIdxR (·.y) aluLax
  | 8 => tImp aluClv
  | 9 => tAbsIdxR (·.y) aluLda
  | 10 => tImp aluTsx
  | 11 => tAbsIdxR (·.y) aluLas
  | 12 => tAbsIdxR (·.x) aluLdy
  | 13 => tAbsIdxR (·.x) aluLda
  | 14 => tAbsIdxR (·.y) aluLdx
  | _ => tAbsIdxR (·.y) aluLax

/-- Opcodes $Cx, by the low nibble. -/
def microcodeC (_cfg : Config) : Nat → List Row
  | 0 => tImm aluCpy
  | 1 => tIzxR aluCmp
  | 2 => tImm aluNop
  | 3 => tIzxM aluDcp
  | 4 => tZpR aluCpy
  | 5 => tZpR aluCmp
  | 6 => tZpM aluDec
  | 7 => tZpM aluDcp
  | 8 => tImp aluIny
  | 9 => tImm aluCmp
  | 10 => tImp aluDex
  | 11 => tImm aluSbx
  | 12 => tAbsR aluCpy
  | 13 => tAbsR aluCmp
  | 14 => tAbsM aluDec
  | _ => tAbsM aluDcp

/-- Opcodes $Dx, by the low nibble. -/
def microcodeD (_cfg : Config) : Nat → List Row
  | 0 => tRel fun p => !p.z
  | 1 => tIzyR aluCmp
  | 2 => tJam
  | 3 => tIzyM aluDcp
  | 4 => tZpIdxR (·.x) aluNop
  | 5 => tZpIdxR (·.x) aluCmp
  | 6 => tZpIdxM (·.x) aluDec
  | 7 => tZpIdxM (·.x) aluDcp
  | 8 => tImp aluCld
  | 9 => tAbsIdxR (·.y) aluCmp
  | 10 => tImp id
  | 11 => tAbsIdxM (·.y) aluDcp
  | 12 => tAbsIdxR (·.x) aluNop
  | 13 => tAbsIdxR (·.x) aluCmp
  | 14 => tAbsIdxM (·.x) aluDec
  | _ => tAbsIdxM (·.x) aluDcp

/-- Opcodes $Ex, by the low nibble. -/
def microcodeE (_cfg : Config) : Nat → List Row
  | 0 => tImm aluCpx
  | 1 => tIzxR aluSbc
  | 2 => tImm aluNop
  | 3 => tIzxM aluIsc
  | 4 => tZpR aluCpx
  | 5 => tZpR aluSbc
  | 6 => tZpM aluInc
  | 7 => tZpM aluIsc
  | 8 => tImp aluInx
  | 9 => tImm aluSbc
  | 10 => tImp id
  | 11 => tImm aluUsbc
  | 12 => tAbsR aluCpx
  | 13 => tAbsR aluSbc
  | 14 => tAbsM aluInc
  | _ => tAbsM aluIsc

/-- Opcodes $Fx, by the low nibble. -/
def microcodeF (_cfg : Config) : Nat → List Row
  | 0 => tRel fun p => p.z
  | 1 => tIzyR aluSbc
  | 2 => tJam
  | 3 => tIzyM aluIsc
  | 4 => tZpIdxR (·.x) aluNop
  | 5 => tZpIdxR (·.x) aluSbc
  | 6 => tZpIdxM (·.x) aluInc
  | 7 => tZpIdxM (·.x) aluIsc
  | 8 => tImp aluSed
  | 9 => tAbsIdxR (·.y) aluSbc
  | 10 => tImp id
  | 11 => tAbsIdxM (·.y) aluIsc
  | 12 => tAbsIdxR (·.x) aluNop
  | 13 => tAbsIdxR (·.x) aluSbc
  | 14 => tAbsIdxM (·.x) aluInc
  | _ => tAbsIdxM (·.x) aluIsc

/-- The rows of opcode `op` after its fetch (R150). -/
def microcode (cfg : Config) (op : Byte) : List Row :=
  let l := op.toNat % 16
  match op.toNat / 16 with
  | 0 => microcode0 cfg l
  | 1 => microcode1 cfg l
  | 2 => microcode2 cfg l
  | 3 => microcode3 cfg l
  | 4 => microcode4 cfg l
  | 5 => microcode5 cfg l
  | 6 => microcode6 cfg l
  | 7 => microcode7 cfg l
  | 8 => microcode8 cfg l
  | 9 => microcode9 cfg l
  | 10 => microcodeA cfg l
  | 11 => microcodeB cfg l
  | 12 => microcodeC cfg l
  | 13 => microcodeD cfg l
  | 14 => microcodeE cfg l
  | _ => microcodeF cfg l

/-- The row `mip` selects (40 R140 step 1, R142): none when the CPU is jammed (R149) or `t` names no row. -/
def Cpu.currentRow (cfg : Config) (c : Cpu) : Option Row :=
  match c.mip with
  | .fetch => some (if c.doNmi then intFetchRow .nmi else if c.doIrq then intFetchRow .irq else fetchRow)
  | .exec op t => if t < 2 then none else (microcode cfg op)[t - 2]?
  | .int k t => if t < 2 then none else (intRows k)[t - 2]?
  | .jammed => none

end Sys2Proof.Machine
end

