-- ==== Sys2Proof/Machine/Drive.lean ====
section
/-! DEFINITION. The 1541 drive (60_exceptions.md R510 to R522, R527): its memory map, the VIA pins the spec names (the rest
of the VIA is PRESUMED or free, log 27), the bit clock UE7/UE3, the head, and the drive's own schedule (R444, R513). Its
CPU runs the same rows as the C64's (R511). -/

namespace Sys2Proof.Machine

/-! ## The serial bus (R521; log 26) -/

/-- Which IEC lines the C64 pulls low. -/
structure IecPulls where
  atn : Bool
  clk : Bool
  data : Bool
deriving DecidableEq, Repr

/-- CIA2 PA bits 3 to 5 drive ATN, CLK, DATA through inverters: a driven 1 pulls the line low. -/
def iecFromCia (pra ddra : Byte) : IecPulls where
  atn := (pra &&& ddra).getLsbD 3
  clk := (pra &&& ddra).getLsbD 4
  data := (pra &&& ddra).getLsbD 5

/-- The output bits of a VIA port: the register where the direction bit is 1, else 0. -/
def Via.outB (v : Via) : Byte := v.regs.read 0 &&& v.regs.read 2

/-- The level of the CLK line: wired-AND. -/
def iecClk (p : IecPulls) (via1 : Via) : Bool := !(p.clk || via1.outB.getLsbD 3)

/-- The level of the DATA line; the drive's ATN-acknowledge gate pulls it too. An ATN-acknowledge pin that is an input
counts as 0, so ATN low then pulls DATA: the model's choice (log 26). -/
def iecData (p : IecPulls) (via1 : Via) : Bool := !(p.data || via1.outB.getLsbD 1 || (via1.outB.getLsbD 4 != p.atn))

/-! ## VIA registers (log 27) -/

/-- A read of VIA register `r`: ports, direction registers and PCR as on the 6522, CA1's flag in the IFR, and `free` for
everything else. CA1's flag is cleared by a read of register 1 and not of register 15: the model's choice (log 27). -/
def Via.read (pinsA pinsB free : Byte) (r : Nat) (v : Via) : Byte × Via :=
  match r with
  | 0 => (mixBits (v.regs.read 0) (v.regs.read 2) pinsB, v)
  | 1 => (mixBits (v.regs.read 1) (v.regs.read 3) pinsA, { v with ca1 := false })
  | 2 => (v.regs.read 2, v)
  | 3 => (v.regs.read 3, v)
  | 12 => (v.regs.read 12, v)
  | 13 => ((free &&& 0xFD#8) ||| (if v.ca1 then 0x02#8 else 0#8), v)
  | 15 => (mixBits (v.regs.read 1) (v.regs.read 3) pinsA, v)
  | _ => (free, v)

/-- A write of VIA register `r`. CA1's flag is cleared by a write of register 1 and by a 1 written to IFR bit 1, and by no
other: the model's choice (log 27). -/
def Via.write (r : Nat) (x : Byte) (v : Via) : Via :=
  match r with
  | 1 => { regs := v.regs.write 1 x, ca1 := false }
  | 13 => { v with ca1 := v.ca1 && !x.getLsbD 1 }
  | 15 => { v with regs := v.regs.write 1 x }
  | _ => { v with regs := v.regs.write r x }

/-- A read of VIA1's register `r`. What its CA1 sees is open (93 U22), so its IFR is free, bit 1 too (log 27). -/
def Via.read1 (pinsB free : Byte) (r : Nat) (v : Via) : Byte × Via :=
  if r = 13 then (free, v) else v.read free pinsB free r

/-! ## VIA2 pins (R520) -/

/-- Read mode: CB2 is not held low (R519). -/
def Drive.readMode (d : Drive) : Bool := d.via2.regs.read 12 &&& 0xE0#8 != 0xC0#8

/-- Byte-ready is enabled: CA2 is not held low (R522). -/
def Drive.soEnabled (d : Drive) : Bool := d.via2.regs.read 12 &&& 0x0E#8 != 0x0C#8

/-- The motor, PB2. -/
def Drive.motorOn (d : Drive) : Bool := d.via2.outB.getLsbD 2

/-- The density bits PB6:PB5 (R514); undriven they read high (log 30). -/
def Drive.density (d : Drive) : BitVec 2 := (mixBits (d.via2.regs.read 0) (d.via2.regs.read 2) 0xFF#8).extractLsb' 5 2

/-- SYNC (R517): ten one-bits in read mode. -/
def Drive.sync (d : Drive) : Bool := d.shift == 0x3FF#10 && d.readMode

/-- The byte the CPU gives the head, VIA2 port A. -/
def Drive.portA (d : Drive) : Byte := d.via2.regs.read 1 &&& d.via2.regs.read 3

/-- The track under the head. -/
def Drive.track (d : Drive) : Track := d.disk.tracks.getD (d.halftrack - 1) { length := 0, bits := [] }

/-- The stepper: a phase change of +1 or -1 modulo 4 moves the head one halftrack in or out, within 1..84; the offset stays
inside the new track. A phase pin that is an input counts as 0, so a write of the direction register can move the head: the
model's choice (log 30). -/
def Drive.stepHead (old : BitVec 2) (d : Drive) : Drive :=
  let new : BitVec 2 := d.via2.outB.extractLsb' 0 2
  let h := if new = old + 1 then min 84 (d.halftrack + 1) else if new + 1 = old then max 1 (d.halftrack - 1) else d.halftrack
  let d := { d with halftrack := h }
  { d with offset := if d.track.length = 0 then 0 else d.offset % d.track.length }

/-! ## The drive CPU's bus (20 R62; log 28) -/

/-- The next free byte of the drive side. -/
def Drive.takeDraw (d : Drive) : Byte × Drive := (Config.driveDrawByte d.draws, { d with draws := d.draws + 1 })

/-- The levels on VIA1 port B: PB7 ATN, PB2 CLK, PB0 DATA; the other pins are free. -/
def via1PinsB (p : IecPulls) (via1 : Via) (free : Byte) : Byte :=
  byteOfBits (!p.atn) (free.getLsbD 6) (free.getLsbD 5) (free.getLsbD 4) (free.getLsbD 3) (iecClk p via1)
    (free.getLsbD 1) (iecData p via1)

/-- The levels on VIA2 port B: PB7 is 0 at SYNC, PB4 is 0 on a protected disk; the other pins are free. -/
def Drive.via2PinsB (free : Byte) (d : Drive) : Byte :=
  byteOfBits (!d.sync) (free.getLsbD 6) (free.getLsbD 5) (!d.disk.writeProtected) (free.getLsbD 3) (free.getLsbD 2)
    (free.getLsbD 1) (free.getLsbD 0)

/-- A read of the drive CPU. -/
def Drive.busRead (p : IecPulls) (a : Nat) (d : Drive) : Byte × Drive :=
  if a < 0x800 then (d.ram.read a, d)
  else if 0xC000 ≤ a then (romRead Config.driveRomImage d.rom a, d)
  else
    let f := d.takeDraw
    if 0x1800 ≤ a && a < 0x1810 then
      let x := d.via1.read1 (via1PinsB p d.via1 f.1) f.1 (a - 0x1800)
      (x.1, { f.2 with via1 := x.2 })
    else if 0x1C00 ≤ a && a < 0x1C10 then
      let x := d.via2.read d.readByte (d.via2PinsB f.1) f.1 (a - 0x1C00)
      (x.1, { f.2 with via2 := x.2 })
    else f

/-- While SYNC holds the byte-ready counter is held at 0 (R517). -/
def Drive.holdCount (d : Drive) : Drive := if d.sync then { d with byteCount := 0#3 } else d

/-- A write of the drive CPU; a write of VIA2 can move the head, or end write mode and so let SYNC hold. -/
def Drive.busWrite (a : Nat) (x : Byte) (d : Drive) : Drive :=
  if a < 0x800 then { d with ram := d.ram.write a x }
  else if 0x1800 ≤ a && a < 0x1810 then { d with via1 := d.via1.write (a - 0x1800) x }
  else if 0x1C00 ≤ a && a < 0x1C10 then
    ({ d with via2 := d.via2.write (a - 0x1C00) x }.stepHead (d.via2.outB.extractLsb' 0 2)).holdCount
  else d

/-! ## One drive CPU cycle (R511, R512, R513) -/

/-- The VIAs' interrupt outputs in this cycle are free (R512, 93 U22; log 27). -/
def Drive.viaLines (d : Drive) : Drive :=
  let f := d.takeDraw
  let l := d.cpu.lines.driveIrq .via1 (f.1.getLsbD 0)
  { f.2 with cpu := { d.cpu with lines := l.driveIrq .via2 (f.1.getLsbD 1) } }

/-- One row of the drive CPU; its `rdy` is constant true (R511), so no row stalls. A jammed CPU has no row (40 R149). A jam
of the drive CPU raises its own jam flag alone and the rest of the machine runs on: the model's choice (log 34). -/
def Drive.cpuRow (cfg : Config) (p : IecPulls) (d : Drive) : Drive :=
  match d.cpu.currentRow cfg with
  | none => d
  | some (.read addr k) =>
    let x := d.busRead p (addr d.cpu).toNat
    { x.2 with cpu := k x.1 x.2.cpu.nextRow }
  | some (.write addr val k) =>
    let d' := d.busWrite (addr d.cpu).toNat (val d.cpu)
    { d' with cpu := k d'.cpu.nextRow }

/-- One drive CPU cycle of a CPU that has a row: the VIAs' lines, the row, housekeeping (40 R145). -/
def Drive.cpuCycle (cfg : Config) (p : IecPulls) (d : Drive) : Drive :=
  let d := d.viaLines.cpuRow cfg p
  { d with cpu := { d.cpu with lines := d.cpu.lines.housekeep } }

/-- The event at `nextClock`: one drive CPU cycle, 16 ticks of the 16 MHz clock (R513). A jammed drive CPU has no step and
none of its state changes, its cycle counter included: that it does not count is the model's choice (40 R149, log 34). -/
def Drive.clockEvent (cfg : Config) (p : IecPulls) (d : Drive) : Drive :=
  let d := if (d.cpu.currentRow cfg).isSome then d.cpuCycle cfg p else d
  { d with nextClock := d.nextClock + 10000 }

/-! ## The bit clock and the head (R514 to R519) -/

/-- Byte-ready, when enabled: VIA2 CA1 sees an edge and the drive CPU's V is set (R522, 10 R38). -/
def Drive.byteReady (d : Drive) : Drive :=
  if d.soEnabled then
    { d with via2 := { d.via2 with ca1 := true }, cpu := { d.cpu with p := { d.cpu.p with v := true } } }
  else d

/-- The offset after one more bit (R516). -/
def Drive.nextOffset (d : Drive) : Nat := if d.offset + 1 < d.track.length then d.offset + 1 else 0

/-- The bit under the head; free on a halftrack with no bits (log 30). -/
def Drive.headBit (d : Drive) : Bool × Drive :=
  if d.track.length = 0 then (d.takeDraw.1.getLsbD 0, d.takeDraw.2)
  else (d.track.bits.getD d.offset false, { d with offset := d.nextOffset })

/-- The byte-ready counter after a bit: held at 0 while SYNC, else counting; at 8 the last eight bits are latched (R518). -/
def Drive.countBit (d : Drive) : Drive :=
  if d.sync then { d with byteCount := 0#3 }
  else if d.byteCount = 7#3 then
    { d with byteCount := 0#3, readByte := d.shift.extractLsb' 0 8 }.byteReady
  else { d with byteCount := d.byteCount + 1 }

/-- A bit-ready event in read mode (R516). -/
def Drive.readBit (d : Drive) : Drive :=
  let x := d.holdCount.headBit
  { x.2 with shift := (x.2.shift <<< 1) ||| (BitVec.ofBool x.1).setWidth 10 }.countBit

/-- The disk with one bit replaced; the cached analysis is dropped (log 44). -/
def Disk.setBit (h off : Nat) (b : Bool) (k : Disk) : Disk :=
  { k with tracks := k.tracks.modify (h - 1) fun t => { t with bits := t.bits.set off b }, modified := true,
           analysis := none }

/-- A bit-ready event in write mode: the next bit of VIA2 port A's byte, most significant first; dropped on a protected
disk (R519, R527). The bit counter is the one of read mode and a switch of mode keeps it, so writing can begin in the
middle of a byte; the read shift register keeps its bits while writing, so SYNC can hold at once on return: both the
model's choice (log 30). -/
def Drive.writeBit (d : Drive) : Drive :=
  let b := d.portA.getLsbD (7 - d.byteCount.toNat)
  let d := if d.track.length = 0 then d
    else { d with disk := if d.disk.writeProtected then d.disk else d.disk.setBit d.halftrack d.offset b,
                  offset := d.nextOffset }
  if d.byteCount = 7#3 then { d with byteCount := 0#3 }.byteReady
  else { d with byteCount := d.byteCount + 1 }

/-- The host saves the disk image: it takes the halftracks, and the modified flag is cleared (R519; the file's format is out
of scope, 00_scope R4). -/
def Drive.saveImage (d : Drive) : List Track × Drive :=
  (d.disk.tracks, { d with disk := { d.disk with modified := false } })

/-- The bit-ready event; the disk spins only while the motor is on (R516). -/
def Drive.bitReady (d : Drive) : Drive :=
  if !d.motorOn then d else if d.readMode then d.readBit else d.writeBit

/-- The event at `nextCarry`: UE7's carry, after `16 - density` ticks of 625 (R514); every fourth gives a bit (R515). UE7
holds the density bits that it was loaded with from one carry to the next, and the zone follows the density bits at a
carry only: both the model's choice, R514 gives UE7's width and its carries and no more (log 30). -/
def Drive.carryEvent (d : Drive) : Drive :=
  let z := d.density
  let d := { d with zone := z, ue7 := z.setWidth 4, ue3 := d.ue3 + 1, nextCarry := d.nextCarry + (16 - z.toNat) * 625 }
  if d.ue3 = 0#2 then d.bitReady else d

/-! ## The schedule (R444, R513) -/

/-- Every event not later than `now`, earliest first, the carry first when both fall together (log 29). -/
def Drive.runEvents (cfg : Config) (p : IecPulls) (now : Nat) : Nat → Drive → Drive
  | 0, d => d
  | n + 1, d =>
    if min d.nextClock d.nextCarry ≤ now then
      runEvents cfg p now n (if d.nextCarry ≤ d.nextClock then d.carryEvent else d.clockEvent cfg p)
    else d

/-- The events that fit up to `now`: a bound on their number is the time divided by the shortest periods. -/
def Drive.run (cfg : Config) (p : IecPulls) (now : Nat) (d : Drive) : Drive :=
  d.runEvents cfg p now ((now - d.nextClock) / 10000 + (now - d.nextCarry) / 8125 + 2)

end Sys2Proof.Machine
end

