-- ==== Sys2Proof/Machine/Banking.lean ====
section
/-! DEFINITION. The banking switch (20_memory.md R72 to R76): which component answers each 4 KiB page for CPU reads and
writes, and the VIC-II memory source table (R80, R81). The tables are functions of their inputs, so they are always
coherent (R74, R98). -/

namespace Sys2Proof.Machine

/-- The handlers of a CPU read (R70). -/
inductive PeekSource where
  | ram
  | basic
  | char
  | kernal
  | crtLo
  | crtHi
  | io
  | unmapped
deriving DecidableEq, Repr

/-- The handlers of a CPU write (R71). -/
inductive PokeTarget where
  | ram
  | io
  | unmapped
deriving DecidableEq, Repr

/-- The five banking inputs (R72), as line levels. -/
structure BankLines where
  exrom : Bool
  game : Bool
  charen : Bool
  hiram : Bool
  loram : Bool
deriving DecidableEq, Repr

/-- Ultimax: EXROM = 1 and GAME = 0 (R76; 90_conflicts C1). -/
def BankLines.ultimax (b : BankLines) : Bool := b.exrom && !b.game

/-- The pages the spec leaves to `ultimax_unmapped` (R76). -/
def ultimaxPage (unmapped : Bool) : PeekSource := if unmapped then .unmapped else .ram

/-- `peekSrc` in ultimax (R76). -/
def peekUltimax (unmapped : Bool) (page : Nat) : PeekSource :=
  if page = 0 then .ram
  else if page = 8 || page = 9 then .crtLo
  else if page = 13 then .io
  else if 14 ≤ page then .crtHi
  else ultimaxPage unmapped

/-- `peekSrc[$D]` outside ultimax (R74). -/
def peekPageD (b : BankLines) : PeekSource :=
  if b.charen && (b.hiram || b.loram) then .io
  else if !b.charen && (b.hiram || (b.loram && b.game)) then .char
  else .ram

/-- `peekSrc` outside ultimax, as the equations of R74. -/
def peekNormal (b : BankLines) (page : Nat) : PeekSource :=
  if page = 8 || page = 9 then if !b.exrom && b.loram && b.hiram then .crtLo else .ram
  else if page = 10 || page = 11 then
    if b.game && b.loram && b.hiram then .basic
    else if !b.game && !b.exrom && b.hiram then .crtHi
    else .ram
  else if page = 13 then peekPageD b
  else if 14 ≤ page then if b.hiram then .kernal else .ram
  else .ram

/-- `peekSrc[page]` (R74, R76). -/
def peekSrc (unmapped : Bool) (b : BankLines) (page : Nat) : PeekSource :=
  if b.ultimax then peekUltimax unmapped page else peekNormal b page

/-- `pokeTarget` in ultimax (R76): writes to the cartridge windows are suppressed. -/
def pokeUltimax (unmapped : Bool) (page : Nat) : PokeTarget :=
  if page = 0 then .ram
  else if page = 8 || page = 9 then .unmapped
  else if page = 13 then .io
  else if 14 ≤ page then .unmapped
  else if unmapped then .unmapped else .ram

/-- `pokeTarget[page]` (R75, R76): RAM everywhere but an I/O page `$D`; a write never reaches a ROM (R71). -/
def pokeTarget (unmapped : Bool) (b : BankLines) (page : Nat) : PokeTarget :=
  if b.ultimax then pokeUltimax unmapped page
  else if page = 13 && peekPageD b = .io then .io
  else .ram

/-- The page of an address, `addr[15:12]`. -/
def pageOf (a : Word) : Nat := a.toNat / 4096

/-- The banking inputs of a state (R72). A C64 CPU without the port (`mos6502`) leaves its three lines where the port's
registers, which no write then reaches, put them: the model's choice (log 49). -/
def State.bankLines (s : State) : BankLines where
  exrom := s.cart.exrom
  game := s.cart.game
  charen := s.port.line 2
  hiram := s.port.line 1
  loram := s.port.line 0

/-- The handler of a CPU read at `a`. -/
def State.peekSource (s : State) (a : Word) : PeekSource := peekSrc s.cfg.ultimaxUnmapped s.bankLines (pageOf a)

/-- The handler of a CPU write at `a`. -/
def State.pokeTarget (s : State) (a : Word) : PokeTarget :=
  Machine.pokeTarget s.cfg.ultimaxUnmapped s.bankLines (pageOf a)

/-- Whether the processor port answers `a` (R70, R71): `$0000` and `$0001` of a 6510. -/
def State.portAt (s : State) (a : Word) : Bool := s.cfg.cpuModel == .mos6510 && decide (a.toNat < 2)

/-- Whether a write at `a` reaches RAM. -/
def State.ramAt (s : State) (a : Word) : Bool := !s.portAt a && decide (s.pokeTarget a = .ram)

/-- Whether a write at `a` reaches colour RAM, `$D800-$DBFF` of the I/O page (R78). -/
def State.colorAt (s : State) (a : Word) : Bool :=
  !s.portAt a && decide (s.pokeTarget a = .io) && decide (8 ≤ a.toNat / 256 % 16) && decide (a.toNat / 256 % 16 < 12)

/-! ## Cartridge ROM (R79; log 37): two 8 KiB windows -/

/-- `peek_rom_l(addr)`. -/
def Cart.readLow (c : Cart) (a : Nat) : Byte := romRead Config.cartLowImage c.romL (a % 8192)

/-- The high-ROM read of `addr`. -/
def Cart.readHigh (c : Cart) (a : Nat) : Byte := romRead Config.cartHighImage c.romH (a % 8192)

/-! ## What the VIC-II reads (R61, R80, R81) -/

/-- `vicBank = (~PA)[1:0]` (R61), from the observed port A of CIA2. -/
def vicBankOf (pa : Byte) : BitVec 2 := (~~~pa).extractLsb' 0 2

/-- The byte at a 16-bit address of the VIC-II (R80): the character ROM at `$1xxx` and `$9xxx`, or in ultimax the last
4 KiB of the cartridge's high ROM at `$3xxx`, `$7xxx`, `$Bxxx`, `$Fxxx`; RAM elsewhere. -/
def State.vicRead16 (s : State) (a : Nat) : Byte :=
  if s.bankLines.ultimax then
    if a / 4096 % 4 = 3 then s.cart.readHigh (4096 + a % 4096) else s.ram.read a
  else if a / 4096 = 1 || a / 4096 = 9 then romRead Config.romImage s.rom (0xD000 + a % 4096)
  else s.ram.read a

/-- A VIC-II read at a 14-bit address in the given bank (R61). -/
def State.vicRead (s : State) (bank : BitVec 2) (a : Nat) : Byte := s.vicRead16 (bank.toNat * 16384 + a % 16384)

/-- `glue_transition(old, new)`, the OPEN table of R81 (log 7). -/
def glueTransition (cfg : Config) (old new : BitVec 2) : BitVec 2 :=
  cfg.glueTransition.getD (4 * old.toNat + new.toNat) 0#2

/-- The bank during this VIC-II cycle (R81): the selected bank with discrete logic; with the custom IC, the transition
table's entry during the one cycle after a switch. `old` is the bank selected in the cycle before: of two switches in
consecutive cycles the second starts from the bank that the first selected, not from the entry in force (log 7). -/
def bankInForce (cfg : Config) (old new : BitVec 2) : BitVec 2 :=
  match cfg.glueLogic with
  | .discrete => new
  | .customIc => if new = old then new else glueTransition cfg old new

end Sys2Proof.Machine
end

