-- ==== Sys2Proof/Machine/Vic.lean ====
section
/-! DEFINITION. The VIC-II (60_exceptions.md R470 to R487): registers with delayed writes, raster position, bad lines, BA,
memory accesses, sprites, interrupt sources, light pen and collisions. `Vic.step` is the chip's cycle, run first in every
clock cycle (R440); the raster position advances at the end of the clock cycle (log 17). -/

namespace Sys2Proof.Machine

/-- What the VIC-II sees in a cycle: its memory at 14-bit addresses (R80) in each half of the cycle (`first` is phi1,
`second` phi2, R471), colour RAM, the light-pen level, and three free
bytes for what the spec leaves open (log 22, 23). -/
structure VicInputs where
  first : Nat → Byte
  second : Nat → Byte
  color : Nat → Byte
  lightPen : Bool
  free0 : Byte
  free1 : Byte
  free2 : Byte

/-! ## Pipeline (R473, R483; log 18, 25): SetIrq0/1 and ClrIrq0/1 in the word, the copies as one chain per register -/

def vicSetIrq : Nat := 0
def vicClrIrq : Nat := 2

/-- Whether pipeline bit `k` is set. -/
def Vic.has (k : Nat) (v : Vic) : Bool := v.delay.getLsbD k

/-- The VIC-II's pipeline mask: stage 1 of its two interrupt chains. -/
def vicDelayMask : BitVec 32 := 0x0000_000A#32

/-- The end of a cycle: the pipeline word moves. -/
def Vic.shiftPipe (v : Vic) : Vic := { v with delay := ((v.delay <<< 1) &&& vicDelayMask) ||| v.feed }

/-- A copy in its last cycle is made: `reg.delayed <- reg.current`, of its register alone (R473). -/
def VicCopy.run (cur del : Memory) (c : VicCopy) : Memory :=
  if c.left ≤ 1 then del.write c.reg (cur.read c.reg) else del

/-- The copy with one cycle less to go; none when it is done. -/
def VicCopy.next (c : VicCopy) : Option VicCopy := if c.left ≤ 1 then none else some { c with left := c.left - 1 }

/-- The copies' part of the end of a cycle (R473). -/
def Vic.copyPhase (v : Vic) : Vic :=
  { v with del := v.copies.foldl (VicCopy.run v.cur) v.del, copies := v.copies.filterMap VicCopy.next }

/-! ## Registers as the chip consumes them: `reg.delayed` (R473) -/

/-- A delayed register. -/
def Vic.reg (r : Nat) (v : Vic) : Byte := v.del.read r

/-- DEN, CR1 bit 4. -/
def Vic.den (v : Vic) : Bool := (v.reg 0x11).getLsbD 4

/-- YSCROLL, CR1 bits 2..0. -/
def Vic.yscroll (v : Vic) : Nat := (v.reg 0x11).toNat % 8

/-- ECM, CR1 bit 6. -/
def Vic.ecm (v : Vic) : Bool := (v.reg 0x11).getLsbD 6

/-- BMM, CR1 bit 5. -/
def Vic.bmm (v : Vic) : Bool := (v.reg 0x11).getLsbD 5

/-- The 9-bit raster compare value (R481). -/
def Vic.rasterCompare (v : Vic) : Nat := (v.reg 0x11).toNat / 128 * 256 + (v.reg 0x12).toNat

/-- The video matrix base, MEMPTR bits 7..4. -/
def Vic.matrixBase (v : Vic) : Nat := (v.reg 0x18).toNat / 16 * 1024

/-! ## Interrupts (R482, R483) -/

/-- The four source bits of the IRR. -/
def Vic.irr (v : Vic) : Byte := byteOfBits false false false false v.irrLp v.irrMmc v.irrMbc v.irrRaster

/-- Bit 7 of the IRR: an enabled source is set. The mask is the delayed register, as for all operations of the chip (R473,
R482; log 25). -/
def Vic.irrAny (v : Vic) : Bool :=
  let imr := v.reg 0x1A
  (imr.getLsbD 0 && v.irrRaster) || (imr.getLsbD 1 && v.irrMbc) || (imr.getLsbD 2 && v.irrMmc) || (imr.getLsbD 3 && v.irrLp)

/-- If bit 7 of the IRR changed, put the change of the output into the pipeline at stage `stage`, dropping an opposite
change still under way (R483). -/
def Vic.noteIrq (stage : Nat) (v : Vic) : Vic :=
  if v.irrAny == v.irq7 then v
  else if v.irrAny then
    { v with irq7 := true, delay := (v.delay &&& ~~~(3#32 <<< vicClrIrq)) ||| (1#32 <<< (vicSetIrq + stage)) }
  else
    { v with irq7 := false, delay := (v.delay &&& ~~~(3#32 <<< vicSetIrq)) ||| (1#32 <<< (vicClrIrq + stage)) }

/-- The output follows the last stages of its chains. -/
def Vic.irqPhase (v : Vic) : Vic :=
  { v with irqOut := if v.has (vicSetIrq + 1) then true else if v.has (vicClrIrq + 1) then false else v.irqOut }

/-! ## Raster, bad lines, display state (R470, R475, R476, R481, R487) -/

/-- The start of a frame clears the DEN latch (R476), the light-pen latch (R484) and the row base (log 20). -/
def Vic.frameStart (v : Vic) : Vic :=
  if v.line = 0 && v.cycle = 1 then { v with denLatch := false, lpDone := false, vcBase := 0#10 } else v

/-- The bad line condition (R475, P8). -/
def Vic.badLineNow (v : Vic) : Bool :=
  v.denLatch && decide (0x30 ≤ v.line) && decide (v.line ≤ 0xF7) && decide (v.line % 8 = v.yscroll)

/-- The DEN latch (R476), the bad line condition, evaluated every cycle, and the display state it enters (R487). -/
def Vic.badLinePhase (v : Vic) : Vic :=
  let v := { v with denLatch := v.denLatch || (decide (v.line = 0x30) && v.den) }
  { v with badLine := v.badLineNow, display := v.display || v.badLineNow }

/-- The raster source fires once per line, in its first cycle; on line 0 one cycle later (R481). -/
def Vic.rasterPhase (v : Vic) : Vic :=
  if v.line = v.rasterCompare && v.cycle = (if v.line = 0 then 2 else 1) then { v with irrRaster := true } else v

/-! ## Fetches (R471, R478) -/

/-- The start of the row's fetches, cycle 14 (log 20). -/
def Vic.rowStart (v : Vic) : Vic :=
  if v.cycle = 14 then { v with vc := v.vcBase, vmli := 0#6, rc := if v.badLine then 0#3 else v.rc } else v

/-- The g-access address in display state. R478 names the buffer entry, `rc` and CB and gives no formula; the bitmap address
from `vc`, and address bits 9 and 10 cleared by ECM, are PRESUMED from the VIC-II (log 20). -/
def Vic.displayAddr (v : Vic) : Nat :=
  let a := if v.bmm then (v.reg 0x18).toNat / 8 % 2 * 8192 + v.vc.toNat * 8 + v.rc.toNat
    else (v.reg 0x18).toNat / 2 % 8 * 2048 + (v.matrix.read v.vmli.toNat).toNat * 8 + v.rc.toNat
  if v.ecm then a / 2048 * 2048 + a % 512 else a

/-- Whether the cycle makes a g-access: cycles 16 to 55. -/
def Vic.gCycle (v : Vic) : Bool := decide (16 ≤ v.cycle) && decide (v.cycle ≤ 55)

/-- The g-access address: in display state through the row buffer; in idle state `$3FFF`, or `$39FF` with ECM (R487). -/
def Vic.gAddr (v : Vic) : Nat := if v.display then v.displayAddr else if v.ecm then 0x39FF else 0x3FFF

/-- What a g-access does beside reading: in display state it advances `vc` and `vmli`. -/
def Vic.afterG (v : Vic) : Vic :=
  if v.gCycle && v.display then { v with vc := v.vc + 1, vmli := v.vmli + 1 } else v

/-- The g-access. -/
def Vic.gAccess (i : VicInputs) (v : Vic) : Vic :=
  { v.afterG with gdata := if v.gCycle then i.first v.gAddr else v.gdata }

/-- Whether the cycle makes a c-access: cycles 15 to 54 of a bad line. -/
def Vic.cCycle (v : Vic) : Bool := v.badLine && decide (15 ≤ v.cycle) && decide (v.cycle ≤ 54)

/-- The c-access address, `VM:vc`. -/
def Vic.cAddr (v : Vic) : Nat := v.matrixBase + v.vc.toNat

/-- The c-access of a bad line: matrix byte and colour nibble at `vc` into the row buffer. -/
def Vic.cAccess (i : VicInputs) (v : Vic) : Vic :=
  if v.cCycle then
    { v with matrix := v.matrix.write v.vmli.toNat (i.second v.cAddr),
             colors := v.colors.write v.vmli.toNat (i.color v.vc.toNat &&& 0x0F#8) }
  else v

/-- Cycle 58: the last row line enters idle state; otherwise the row counter advances (R487, log 20). -/
def Vic.rowEnd (v : Vic) : Vic :=
  if v.cycle = 58 then
    let v := if v.rc = 7#3 then { v with vcBase := v.vc, display := v.badLine } else v
    if v.display then { v with rc := v.rc + 1 } else v
  else v

/-! ## Sprites (R471, R477, R479, R480; log 19) -/

/-- The cycle of sprite `n`'s p-access (R471). -/
def spriteSlot (m : VicModel) (n : Nat) : Nat :=
  if n < 3 then m.cyclesPerLine - 5 + 2 * n else 2 * n - 5

/-- `MnY`. -/
def Vic.spriteY (n : Nat) (v : Vic) : Nat := (v.reg (2 * n + 1)).toNat

/-- Whether sprite `n` is enabled (ME). -/
def Vic.spriteOn (n : Nat) (v : Vic) : Bool := (v.reg 0x15).getLsbD n

/-- Whether sprite `n` is expanded vertically (MYE). -/
def Vic.spriteTall (n : Nat) (v : Vic) : Bool := (v.reg 0x17).getLsbD n

/-- DMA turns on when the sprite is enabled and `MnY` is the low byte of the raster line (R479). -/
def Vic.spriteDma (n : Nat) (v : Vic) (p : Sprite) : Sprite :=
  if !p.dma && v.spriteOn n && decide (v.spriteY n = v.line % 256) then
    { p with dma := true, mc := 0#6, expFlop := !v.spriteTall n }
  else p

/-- The address of sprite `n`'s pointer, `VM | $3F8 + n`. -/
def Vic.pAddr (n : Nat) (v : Vic) : Nat := v.matrixBase + 0x3F8 + n

/-- The address of data byte `k` of the sprite's row, `pointer * 64 + MC` (R479). -/
def Sprite.sAddr (k : Nat) (p : Sprite) : Nat := p.pointer.toNat * 64 + p.mc.toNat + k

/-- A byte enters the 24-bit shift register. -/
def Sprite.shiftIn (x : Byte) (p : Sprite) : Sprite := { p with data := (p.data <<< 8) ||| x.setWidth 24 }

/-- The first cycle of a sprite's slot: the p-access, and in the second half-cycle the first s-access if DMA is on (R471).
Without DMA the data bits are dropped here, the model's choice (log 19). -/
def Vic.spriteFirst (i : VicInputs) (n : Nat) (v : Vic) (p : Sprite) : Sprite :=
  let p := { p with pointer := i.first (v.pAddr n) }
  if p.dma then p.shiftIn (i.second (p.sAddr 0)) else { p with data := 0#24 }

/-- The second cycle of the slot with DMA on: the second and third s-access, then `MC` advances by 3, every second line
when the sprite is expanded vertically (R479, R480). -/
def Vic.spriteSecond (i : VicInputs) (n : Nat) (v : Vic) (p : Sprite) : Sprite :=
  let q := (p.shiftIn (i.first (p.sAddr 1))).shiftIn (i.second (p.sAddr 2))
  { q with mc := if !v.spriteTall n || p.expFlop then p.mc + 3 else p.mc,
           expFlop := if v.spriteTall n then !p.expFlop else true }

/-- The sprite's slot. -/
def Vic.spriteFetch (m : VicModel) (i : VicInputs) (n : Nat) (v : Vic) (p : Sprite) : Sprite :=
  if v.cycle = spriteSlot m n then v.spriteFirst i n p
  else if p.dma && v.cycle = spriteSlot m n + 1 then v.spriteSecond i n p
  else p

/-- All eight sprites in one cycle. -/
def Vic.spritePhase (m : VicModel) (i : VicInputs) (v : Vic) : Vic :=
  { v with sprites := v.sprites.mapIdx fun n p => v.spriteFetch m i n (v.spriteDma n p) }

/-- DMA ends after the 21st row, when the second s-access cycle is over and RDY has been held low through it (R477, R479). -/
def Vic.spriteEnd (m : VicModel) (v : Vic) : Vic :=
  { v with sprites := v.sprites.mapIdx fun n p =>
      { p with dma := p.dma && !(decide (v.cycle = spriteSlot m n + 1) && p.mc == 63#6) } }

/-- The address that a sprite reads in the first half of this cycle: the pointer's, or its second data byte's (R471). -/
def Vic.spriteReadFirst (m : VicModel) (n : Nat) (v : Vic) (p : Sprite) : List Nat :=
  if v.cycle = spriteSlot m n then [v.pAddr n]
  else if p.dma && v.cycle = spriteSlot m n + 1 then [p.sAddr 1]
  else []

/-- The address that a sprite reads in the second half: its first data byte's, through the pointer just read, or its
third's. -/
def Vic.spriteReadSecond (m : VicModel) (first : Nat → Byte) (n : Nat) (v : Vic) (p : Sprite) : List Nat :=
  if v.cycle = spriteSlot m n then
    (if p.dma then [({ p with pointer := first (v.pAddr n) } : Sprite).sAddr 0] else [])
  else if p.dma && v.cycle = spriteSlot m n + 1 then [p.sAddr 2]
  else []

/-- Whether sprite DMA holds RDY low in this cycle: from three cycles before the p-access through the second s-access
cycle (R477). -/
def spriteSteals (m : VicModel) (cycle n : Nat) (p : Sprite) : Bool :=
  p.dma && decide ((cycle + m.cyclesPerLine + 3 - spriteSlot m n) % m.cyclesPerLine ≤ 4)

/-- The RDY level in this cycle (R477): low in cycles 12 to 54 of a bad line and for sprite DMA. -/
def Vic.rdyNow (m : VicModel) (v : Vic) : Bool :=
  !(v.badLine && decide (12 ≤ v.cycle) && decide (v.cycle ≤ 54)) &&
    !(v.sprites.mapIdx fun n p => spriteSteals m v.cycle n p).any id

/-! ## Border (R487; the compare values are PRESUMED, log 21), light pen (R484), collisions (R485) -/

/-- The border flip-flops. That the vertical one is compared in the last cycle of a line alone and cleared only with DEN set,
and the main one cleared only while the vertical one is clear, is the model's choice too (log 21). -/
def Vic.borderPhase (m : VicModel) (v : Vic) : Vic :=
  let rsel := (v.reg 0x11).getLsbD 3
  let csel := (v.reg 0x16).getLsbD 3
  let v := if v.cycle = m.cyclesPerLine then
      if v.line = (if rsel then 251 else 247) then { v with vertBorder := true }
      else if v.line = (if rsel then 51 else 55) && v.den then { v with vertBorder := false } else v
    else v
  if v.cycle = (if csel then 57 else 56) then { v with mainBorder := true }
  else if v.cycle = (if csel then 17 else 18) && !v.vertBorder then { v with mainBorder := false } else v

/-- The light pen: once per frame a falling input latches the beam position; its X coordinate is free (log 23). -/
def Vic.lightPenPhase (i : VicInputs) (v : Vic) : Vic :=
  if v.lpPrev && !i.lightPen && !v.lpDone then
    { v with lpPrev := false, lpDone := true, lpx := i.free2, lpy := BitVec.ofNat 8 v.line, irrLp := true }
  else { v with lpPrev := i.lightPen }

/-- The sprites that could put out a pixel: those with sprite data (log 22). -/
def Vic.activeSprites (v : Vic) : Byte :=
  let on (n : Nat) : Bool := (v.sprites.getD n Sprite.reset).data != 0#24
  byteOfBits (on 7) (on 6) (on 5) (on 4) (on 3) (on 2) (on 1) (on 0)

/-- At least two bits of a collision byte, or none: one sprite does not collide with itself (R485). -/
def atLeastTwo (m : Byte) : Byte := if m &&& (m - 1) = 0#8 then 0#8 else m

/-- Collisions: free, among the sprites with data (pixels are out of scope, log 22). A bit set in an all-zero register fires
its source (R485). -/
def Vic.collisionPhase (i : VicInputs) (v : Vic) : Vic :=
  let mm := atLeastTwo (i.free0 &&& v.activeSprites)
  let md := i.free1 &&& v.activeSprites
  { v with mm := v.mm ||| mm, md := v.md ||| md,
           irrMmc := v.irrMmc || (v.mm == 0#8 && mm != 0#8), irrMbc := v.irrMbc || (v.md == 0#8 && md != 0#8) }

/-! ## The cycle -/

/-- The condition phases, before the cycle's accesses. -/
def Vic.conditions (v : Vic) : Vic := v.irqPhase.frameStart.badLinePhase.rasterPhase.rowStart

/-- The matrix and graphics accesses and the end of the row. -/
def Vic.rowPhase (i : VicInputs) (v : Vic) : Vic := ((v.conditions.gAccess i).cAccess i).rowEnd

/-- One VIC-II cycle (R440, R471): the condition phases, the accesses, the sources, RDY, then the pipeline moves. -/
def Vic.step (m : VicModel) (i : VicInputs) (v : Vic) : Vic :=
  let v := ((((v.rowPhase i).spritePhase m i).borderPhase m).lightPenPhase i).collisionPhase i
  ((({ v with ba := v.rdyNow m }.spriteEnd m).copyPhase).noteIrq 0).shiftPipe

/-- What `f` gives for each sprite, with the DMA that this cycle's condition turns on. -/
def Vic.spriteAddrs (f : Nat → Vic → Sprite → List Nat) (v : Vic) : List Nat :=
  (v.sprites.mapIdx fun n p => f n v (v.spriteDma n p)).flatten

/-- The 14-bit addresses that the first half of the cycle reads, as `Vic.step` makes the accesses: a g-access, or a
sprite's; at most one (R471). No byte read in the cycle changes them. -/
def Vic.readsFirst (m : VicModel) (v : Vic) : List Nat :=
  let g := v.conditions
  (if g.gCycle then [g.gAddr] else []) ++ g.spriteAddrs (Vic.spriteReadFirst m)

/-- The 14-bit addresses that the second half reads, after the first half's bytes: a c-access, or a sprite's; at most one. -/
def Vic.readsSecond (m : VicModel) (first : Nat → Byte) (v : Vic) : List Nat :=
  let c := v.conditions.afterG
  (if c.cCycle then [c.cAddr] else []) ++ v.conditions.spriteAddrs (Vic.spriteReadSecond m first)

/-- The raster position after a clock cycle (R470, log 17). -/
def Vic.advance (m : VicModel) (v : Vic) : Vic :=
  if v.cycle < m.cyclesPerLine then { v with cycle := v.cycle + 1 }
  else { v with cycle := 1, line := if v.line + 1 < m.linesPerFrame then v.line + 1 else 0 }

/-- Whether this clock cycle ends a frame (R441). -/
def Vic.frameEnds (m : VicModel) (v : Vic) : Bool :=
  decide (m.cyclesPerLine ≤ v.cycle) && decide (m.linesPerFrame ≤ v.line + 1)

/-! ## Register accesses (R472, R473, R482, R486; `r` is `addr[5:0]`) -/

/-- A CPU read. -/
def Vic.read (r : Nat) (v : Vic) : Byte × Vic :=
  if 0x2F ≤ r then (0xFF#8, v)
  else if r = 0x11 then ((v.cur.read 0x11 &&& 0x7F#8) ||| (if 256 ≤ v.line then 0x80#8 else 0#8), v)
  else if r = 0x12 then (BitVec.ofNat 8 v.line, v)
  else if r = 0x13 then (v.lpx, v)
  else if r = 0x14 then (v.lpy, v)
  else if r = 0x16 then (v.cur.read 0x16 ||| 0xC0#8, v)
  else if r = 0x18 then (v.cur.read 0x18 ||| 0x01#8, v)
  else if r = 0x19 then (v.irr ||| 0x70#8 ||| (if v.irrAny then 0x80#8 else 0#8), v)
  else if r = 0x1A then (v.cur.read 0x1A ||| 0xF0#8, v)
  else if r = 0x1E then (v.mm, { v with mm := 0#8 })
  else if r = 0x1F then (v.md, { v with md := 0#8 })
  else if 0x20 ≤ r then (v.cur.read r ||| 0xF0#8, v)
  else (v.cur.read r, v)

/-- The delay of register `r` (R473), any number of cycles. -/
def vicWriteDelay (cfg : Config) (r : Nat) : Nat := cfg.vicWriteDelay.getD r 1

/-- A copy of register `r` is under way, due at the end of the VIC-II's `d`-th cycle from now. -/
def Vic.schedule (r d : Nat) (v : Vic) : Vic := { v with copies := v.copies ++ [{ reg := r, left := d }] }

/-- The write of a shadow register (R473): `reg.current` at once, the copy to `reg.delayed` through the pipeline, or at
once with delay 0. With the gray dot bug a colour register holds `$F` for one cycle, then the new value, whatever its
delay is (R474). -/
def Vic.writeShadow (cfg : Config) (r : Nat) (x : Byte) (v : Vic) : Vic :=
  let v := { v with cur := v.cur.write r x }
  if cfg.grayDotBug && decide (0x20 ≤ r) then { v with del := v.del.write r 0x0F#8 }.schedule r 1
  else if vicWriteDelay cfg r = 0 then { v with del := v.del.write r x }
  else v.schedule r (vicWriteDelay cfg r)

/-- Writing 1 bits to `$19` clears those sources (R482). -/
def Vic.acknowledge (x : Byte) (v : Vic) : Vic :=
  { v with irrRaster := v.irrRaster && !x.getLsbD 0, irrMbc := v.irrMbc && !x.getLsbD 1,
           irrMmc := v.irrMmc && !x.getLsbD 2, irrLp := v.irrLp && !x.getLsbD 3 }

/-- A CPU write. The collision registers cannot be written (R486). A write of the light-pen latch is dropped: the model's
choice, R472 does not say (log 23). The compare value is the shadow register `$12`. -/
def Vic.write (cfg : Config) (r : Nat) (x : Byte) (v : Vic) : Vic :=
  if 0x2F ≤ r then v
  else if r = 0x13 || r = 0x14 || r = 0x1E || r = 0x1F then v
  else if r = 0x19 then (v.acknowledge x).noteIrq 1
  else if r = 0x1A then (v.writeShadow cfg r (x &&& 0x0F#8)).noteIrq 1
  else if 0x20 ≤ r then v.writeShadow cfg r (x &&& 0x0F#8)
  else v.writeShadow cfg r x

end Sys2Proof.Machine
end

