-- ==== Sys2Proof/Machine/Bus.lean ====
section
/-! DEFINITION. The bus multiplexer (20_memory.md R70, R71, R77, R78): one CPU bus access of one byte. An access changes the
devices it reaches, memory and the counter of free values; it never changes the CPU. -/

namespace Sys2Proof.Machine

/-- `draw(byte)` (00 R8): the next free byte. -/
def State.takeDraw (s : State) : Byte × State := (Config.drawByte s.draws, { s with draws := s.draws + 1 })

/-- An access of the cartridge: one that switches may change GAME and EXROM at it, freely (R79, log 37). -/
def State.cartAccess (s : State) : State :=
  if s.cart.present && s.cart.switching then
    { s with cart := { s.cart with game := (Config.drawByte s.draws).getLsbD 0, exrom := (Config.drawByte s.draws).getLsbD 1 },
             draws := s.draws + 1 }
  else s

/-- The IEC lines the C64 pulls. -/
def State.iecPulls (s : State) : IecPulls := iecFromCia s.cia2.pra s.cia2.ddra

/-- External level of CIA2 port A: bits 6, 7 read CLK and DATA back (60 R521). -/
def State.cia2ExtA (s : State) : Byte :=
  (s.cia2.extA &&& 0x3F#8) ||| byteOfBits (iecData s.iecPulls s.drive.via1) (iecClk s.iecPulls s.drive.via1) false false
    false false false false

/-- A read of CIA port A: bit 4 is free while the datasette motor is off (60 R464, 93 U12; log 16). -/
def State.portARead (b : Byte) (s : State) : Byte × State :=
  if s.port.motorOn then (b, s)
  else
    let d := s.takeDraw
    ((b &&& 0xEF#8) ||| (d.1 &&& 0x10#8), d.2)

/-- A read of CIA1. -/
def State.cia1Read (r : Nat) (s : State) : Byte × State :=
  let x := s.cia1.read s.cfg s.cia1.extA r
  if r = 0 then ({ s with cia1 := x.2 } : State).portARead x.1 else (x.1, { s with cia1 := x.2 })

/-- A read of CIA2. -/
def State.cia2Read (r : Nat) (s : State) : Byte × State :=
  let x := s.cia2.read s.cfg s.cia2ExtA r
  if r = 0 then ({ s with cia2 := x.2 } : State).portARead x.1 else (x.1, { s with cia2 := x.2 })

/-- `addr[11:8]`, which selects the device of the I/O page. -/
def ioBlock (a : Word) : Nat := a.toNat / 256 % 16

/-- A read of the I/O page (R77). -/
def State.ioRead (a : Word) (s : State) : Byte × State :=
  if ioBlock a < 4 then
    let x := s.vic.read (a.toNat % 64)
    (x.1, { s with vic := x.2 })
  else if ioBlock a < 8 then s.takeDraw
  else if ioBlock a < 12 then
    let d := s.takeDraw
    ((d.1 &&& 0xF0#8) ||| (s.colorRam.read (a.toNat % 1024) &&& 0x0F#8), d.2)
  else if ioBlock a = 12 then s.cia1Read (a.toNat % 16)
  else if ioBlock a = 13 then s.cia2Read (a.toNat % 16)
  else s.cartAccess.takeDraw

/-- One CPU read bus cycle of one byte, `MemRead(addr, 1)` (R70). -/
def State.busRead (a : Word) (s : State) : Byte × State :=
  if s.portAt a then
    (if a = 0#16 then s.port.dir else s.port.readData s.cfg s.cpu.lines.cycle s.inputs.datasetteKey, s)
  else
    match s.peekSource a with
    | .ram => (s.ram.read a.toNat, s)
    | .basic => (romRead Config.romImage s.rom a.toNat, s)
    | .char => (romRead Config.romImage s.rom a.toNat, s)
    | .kernal => (romRead Config.romImage s.rom a.toNat, s)
    | .crtLo => (s.cart.readLow a.toNat, s.cartAccess)
    | .crtHi => (s.cart.readHigh a.toNat, s.cartAccess)
    | .io => s.ioRead a
    | .unmapped => s.takeDraw

/-- A write of the I/O page (R78): SID writes leave the scope, `$DE00-$DFFF` go to the cartridge. -/
def State.ioWrite (a : Word) (v : Byte) (s : State) : State :=
  if ioBlock a < 4 then { s with vic := s.vic.write s.cfg (a.toNat % 64) v }
  else if ioBlock a < 8 then s
  else if ioBlock a < 12 then { s with colorRam := s.colorRam.write (a.toNat % 1024) (v &&& 0x0F#8) }
  else if ioBlock a = 12 then { s with cia1 := s.cia1.write s.cfg (a.toNat % 16) v }
  else if ioBlock a = 13 then { s with cia2 := s.cia2.write s.cfg (a.toNat % 16) v }
  else s.cartAccess

/-- A write of the processor port (10 R36, R37). -/
def State.portWrite (a : Word) (v : Byte) (s : State) : State :=
  { s with port := if a = 0#16 then s.port.writeDir s.cfg s.cpu.lines.cycle v else s.port.writeData v }

/-- One CPU write bus cycle of one byte, `MemWrite(addr, 1, v)` (R71). -/
def State.busWrite (a : Word) (v : Byte) (s : State) : State :=
  if s.portAt a then s.portWrite a v
  else
    match s.pokeTarget a with
    | .ram => { s with ram := s.ram.write a.toNat v }
    | .io => s.ioWrite a v
    | .unmapped => s

/-- `spypeek(addr)` (R82): what a CPU read would return, with no side effect. -/
def State.spyPeek (a : Word) (s : State) : Byte := (s.busRead a).1

/-- `spypeek` of a 16-bit quantity, low byte first (R86). -/
def State.spyPeek16 (a : Word) (s : State) : Word := cat (s.spyPeek (a + 1)) (s.spyPeek a)

end Sys2Proof.Machine
end

