-- ==== Sys2Proof/Machine/Cycle.lean ====
section
/-! DEFINITION. One C64 clock cycle (60_exceptions.md R440): VIC-II, CIA1, CIA2, then the CPU's row (stalled by RDY on a
read, 40_datapath_cycles.md R140, R144), then housekeeping (R145) and the drive. A row is run with its stalls; an
instruction is its fetch and the rows of its template (R181). -/

namespace Sys2Proof.Machine

/-! ## The devices' part of a cycle -/

/-- The external pins drive their interrupt sources (R403): RESTORE, the freeze button, a cartridge's IRQ. RESTORE is
looked at before the freeze button: the model's choice, seen when both change at one boundary (log 35). -/
def State.syncPins (s : State) : State :=
  let l := (s.cpu.lines.driveNmi .keyboard s.inputs.restoreKey).driveNmi .expansion s.inputs.freezeButton
  { s with cpu := { s.cpu with lines := l.driveIrq .expansion s.inputs.cartIrq } }

/-- The selected VIC-II bank (20 R61). -/
def State.selectedBank (s : State) : BitVec 2 := vicBankOf (s.cia2.portA s.cia2.extA)

/-- A fetch of the VIC-II at a 14-bit address: one from the cartridge's high ROM, in ultimax at `$3xxx` of its space (R80),
is an access of the cartridge, at which it may change GAME and EXROM (R79; log 37). -/
def State.vicFetch (s : State) (a : Nat) : State :=
  if s.bankLines.ultimax && a % 16384 / 4096 == 3 then s.cartAccess else s

/-- The bank in force in this cycle. -/
def State.vicBank (s : State) : BitVec 2 := bankInForce s.cfg s.vic.bank s.selectedBank

/-- The state after the fetches of the first half of the cycle, which the second half sees (R74, R79). -/
def State.vicHalf (s : State) : State := (s.vic.readsFirst s.cfg.vicModel).foldl State.vicFetch s

/-- The state after the fetches of the whole cycle. -/
def State.vicWhole (s : State) : State :=
  (s.vic.readsSecond s.cfg.vicModel (s.vicRead s.vicBank)).foldl State.vicFetch s.vicHalf

/-- What the VIC-II sees in this cycle, with its three free bytes. -/
def State.vicInputs (free : Nat) (s : State) : VicInputs where
  first := s.vicRead s.vicBank
  second := s.vicHalf.vicRead s.vicBank
  color a := s.colorRam.read (a % 1024)
  lightPen := s.cia1.portB.getLsbD 4
  free0 := Config.drawByte free
  free1 := Config.drawByte (free + 1)
  free2 := Config.drawByte (free + 2)

/-- The VIC-II's cycle; it drives RDY and the IRQ line (R477, R483). Of the cycle's fetches the cartridge keeps the
change they made to its lines. The bank kept for the next cycle is the selected one (R81; log 7). -/
def State.vicCycle (s : State) : State :=
  let t : State := { s with draws := s.draws + 3 }
  let v := { s.vic.step s.cfg.vicModel (t.vicInputs s.draws) with bank := s.selectedBank }
  let u := t.vicWhole
  { s with vic := v, draws := u.draws, cart := u.cart,
           cpu := { s.cpu with lines := (s.cpu.lines.setRdy v.ba).driveIrq .vic v.irqOut } }

/-- CIA1's cycle; it drives IRQ (R459). -/
def State.cia1Cycle (s : State) : State :=
  let c := s.cia1.step s.cfg
  { s with cia1 := c, cpu := { s.cpu with lines := s.cpu.lines.driveIrq .cia c.irqOut } }

/-- CIA2's cycle; it drives NMI (R459). -/
def State.cia2Cycle (s : State) : State :=
  let c := s.cia2.step s.cfg
  { s with cia2 := c, cpu := { s.cpu with lines := s.cpu.lines.driveNmi .cia c.irqOut } }

/-- Everything before the CPU in a clock cycle. -/
def State.devices (s : State) : State := s.syncPins.vicCycle.cia1Cycle.cia2Cycle

/-! ## The end of a cycle -/

/-- The raster position moves on, and a frame's end gives both CIAs their TOD tick (R441, R470). -/
def State.rasterEnd (s : State) : State :=
  let tick := s.vic.frameEnds s.cfg.vicModel
  { s with vic := s.vic.advance s.cfg.vicModel,
           cia1 := { s.cia1 with todTick := s.cia1.todTick || tick },
           cia2 := { s.cia2 with todTick := s.cia2.todTick || tick } }

/-- The drive's events up to the C64's elapsed time (R444, R513). -/
def State.driveCycle (s : State) : State :=
  let now := s.elapsed + s.cfg.cycleDuration
  { s with elapsed := now, drive := s.drive.run s.cfg s.iecPulls now }

/-- Housekeeping (40 R145), the drive, the raster. -/
def State.finish (s : State) : State :=
  ({ s with cpu := { s.cpu with lines := s.cpu.lines.housekeep } } : State).driveCycle.rasterEnd

/-! ## The CPU's row -/

/-- A stalled cycle: no bus access, no CPU change but the model's own mark that the instruction was stalled (log 9). -/
def State.stallCycle (s : State) : State :=
  ({ s with cpu := { s.cpu with stalled := s.cpu.stalled || s.cpu.mip != .fetch } } : State).finish

/-- The stalled cycles before a read: `readLoop n s` is the state in which the read gets the bus (R144). -/
def State.readLoop : Nat → State → State
  | 0, s => s.devices
  | n + 1, s => if s.devices.cpu.lines.rdy then s.devices else s.devices.stallCycle.readLoop n

/-- The state in which a read row gets the bus. RDY is never low for more than 65 cycles in a row (log 38), so the bound
of the loop is not reached. -/
def State.readSlot (s : State) : State := s.readLoop 66

/-- What a read of `a` in the next CPU cycle gets from the bus, after its stalls. -/
def State.nextRead (a : Word) (s : State) : Byte := (s.readSlot.busRead a).1

/-- A read row in the state in which it gets the bus. `ov` is an operand byte already delivered by the decoder (log 2). -/
def State.performRead (addr : Cpu → Word) (k : Byte → Cpu → Cpu) (ov : Option Byte) (u : State) : State :=
  let x := u.busRead (addr u.cpu)
  { x.2 with cpu := k (ov.getD x.1) x.2.cpu.nextRow }

/-- A write row in the state in which it gets the bus: RDY does not matter (R144). -/
def State.performWrite (addr : Cpu → Word) (val : Cpu → Byte) (k : Cpu → Cpu) (u : State) : State :=
  let t := u.busWrite (addr u.cpu) (val u.cpu)
  { t with cpu := k t.cpu.nextRow }

/-- A row with its stalls, to the end of its cycle. -/
def State.runRow (r : Row) (ov : Option Byte) (s : State) : State :=
  match r with
  | .read addr k => (s.readSlot.performRead addr k ov).finish
  | .write addr val k => (s.devices.performWrite addr val k).finish

/-- Rows up to the next instruction boundary, the first ones with the operand bytes already delivered. -/
def State.runRows (bs : List Byte) (rows : List Row) (s : State) : State :=
  match rows with
  | [] => s
  | r :: rs =>
    let t := s.runRow r bs.head?
    if t.cpu.atBoundary then t else t.runRows bs.tail rs

/-- A whole instruction whose bytes the decoder delivered: the fetch, then the rows of its template (R181). -/
def State.runInstr (bs : List Byte) (rows : List Row) (s : State) : State := s.runRows bs (fetchRow :: rows)

/-- An interrupt sequence (60 R412). -/
def State.interrupt (k : IntKind) (s : State) : State := s.runRows [] (intFetchRow k :: intRows k)

/-- `executeOneCycle()` with the devices around it (40 R140, 60 R440): one clock cycle of the machine, whatever row `mip`
names. A jammed CPU has no step (R149). -/
def State.clock (s : State) : State :=
  match s.cpu.currentRow s.cfg with
  | none => s
  | some (.read addr k) =>
    if s.devices.cpu.lines.rdy then (s.devices.performRead addr k none).finish else s.devices.stallCycle
  | some (.write addr val k) => (s.devices.performWrite addr val k).finish

/-- The rest of an instruction from inside it, row by row; none where `mip` names no row. -/
def State.finishInstr : Nat → State → Option State
  | 0, s => if s.cpu.atBoundary then some s else none
  | n + 1, s =>
    if s.cpu.atBoundary then some s
    else
      match s.cpu.currentRow s.cfg with
      | none => none
      | some r => (s.runRow r none).finishInstr n

end Sys2Proof.Machine
end

