-- ==== Sys2Proof/Machine/Arithmetic.lean ====
section
/-! DEFINITION. The meanings of the arithmetic, comparisons, increments and decrements (43_arithmetic.md R230 to R242):
each one the fetch of its bytes and the rows of its cycle template with its data operation, one definition per opcode. -/

namespace Sys2Proof.Machine

/-- `ADC` izx, opcode `$61` (R230, `T_IZX_R`). -/
def execAdcIzx (b : Byte) (s : State) : Host.Outcome State Fault Refusal :=
  .next (s.runInstr [0x61#8, b] (tIzxR aluAdc))

/-- `ADC` zp, opcode `$65` (R230, `T_ZP_R`). -/
def execAdcZp (b : Byte) (s : State) : Host.Outcome State Fault Refusal :=
  .next (s.runInstr [0x65#8, b] (tZpR aluAdc))

/-- `ADC` imm, opcode `$69` (R230, `T_IMM`). -/
def execAdcImm (b : Byte) (s : State) : Host.Outcome State Fault Refusal :=
  .next (s.runInstr [0x69#8, b] (tImm aluAdc))

/-- `ADC` abs, opcode `$6D` (R230, `T_ABS_R`). -/
def execAdcAbs (w : Word) (s : State) : Host.Outcome State Fault Refusal :=
  .next (s.runInstr [0x6D#8, lo w, hi w] (tAbsR aluAdc))

/-- `ADC` izy, opcode `$71` (R230, `T_IZY_R`). -/
def execAdcIzy (b : Byte) (s : State) : Host.Outcome State Fault Refusal :=
  .next (s.runInstr [0x71#8, b] (tIzyR aluAdc))

/-- `ADC` zpx, opcode `$75` (R230, `T_ZPX_R`). -/
def execAdcZpx (b : Byte) (s : State) : Host.Outcome State Fault Refusal :=
  .next (s.runInstr [0x75#8, b] (tZpIdxR (·.x) aluAdc))

/-- `ADC` aby, opcode `$79` (R230, `T_ABY_R`). -/
def execAdcAby (w : Word) (s : State) : Host.Outcome State Fault Refusal :=
  .next (s.runInstr [0x79#8, lo w, hi w] (tAbsIdxR (·.y) aluAdc))

/-- `ADC` abx, opcode `$7D` (R230, `T_ABX_R`). -/
def execAdcAbx (w : Word) (s : State) : Host.Outcome State Fault Refusal :=
  .next (s.runInstr [0x7D#8, lo w, hi w] (tAbsIdxR (·.x) aluAdc))

/-- `SBC` izx, opcode `$E1` (R232, `T_IZX_R`). -/
def execSbcIzx (b : Byte) (s : State) : Host.Outcome State Fault Refusal :=
  .next (s.runInstr [0xE1#8, b] (tIzxR aluSbc))

/-- `SBC` zp, opcode `$E5` (R232, `T_ZP_R`). -/
def execSbcZp (b : Byte) (s : State) : Host.Outcome State Fault Refusal :=
  .next (s.runInstr [0xE5#8, b] (tZpR aluSbc))

/-- `SBC` imm, opcode `$E9` (R232, `T_IMM`). -/
def execSbcImm (b : Byte) (s : State) : Host.Outcome State Fault Refusal :=
  .next (s.runInstr [0xE9#8, b] (tImm aluSbc))

/-- `SBC` abs, opcode `$ED` (R232, `T_ABS_R`). -/
def execSbcAbs (w : Word) (s : State) : Host.Outcome State Fault Refusal :=
  .next (s.runInstr [0xED#8, lo w, hi w] (tAbsR aluSbc))

/-- `SBC` izy, opcode `$F1` (R232, `T_IZY_R`). -/
def execSbcIzy (b : Byte) (s : State) : Host.Outcome State Fault Refusal :=
  .next (s.runInstr [0xF1#8, b] (tIzyR aluSbc))

/-- `SBC` zpx, opcode `$F5` (R232, `T_ZPX_R`). -/
def execSbcZpx (b : Byte) (s : State) : Host.Outcome State Fault Refusal :=
  .next (s.runInstr [0xF5#8, b] (tZpIdxR (·.x) aluSbc))

/-- `SBC` aby, opcode `$F9` (R232, `T_ABY_R`). -/
def execSbcAby (w : Word) (s : State) : Host.Outcome State Fault Refusal :=
  .next (s.runInstr [0xF9#8, lo w, hi w] (tAbsIdxR (·.y) aluSbc))

/-- `SBC` abx, opcode `$FD` (R232, `T_ABX_R`). -/
def execSbcAbx (w : Word) (s : State) : Host.Outcome State Fault Refusal :=
  .next (s.runInstr [0xFD#8, lo w, hi w] (tAbsIdxR (·.x) aluSbc))

/-- `CMP` izx, opcode `$C1` (R234, `T_IZX_R`). -/
def execCmpIzx (b : Byte) (s : State) : Host.Outcome State Fault Refusal :=
  .next (s.runInstr [0xC1#8, b] (tIzxR aluCmp))

/-- `CMP` zp, opcode `$C5` (R234, `T_ZP_R`). -/
def execCmpZp (b : Byte) (s : State) : Host.Outcome State Fault Refusal :=
  .next (s.runInstr [0xC5#8, b] (tZpR aluCmp))

/-- `CMP` imm, opcode `$C9` (R234, `T_IMM`). -/
def execCmpImm (b : Byte) (s : State) : Host.Outcome State Fault Refusal :=
  .next (s.runInstr [0xC9#8, b] (tImm aluCmp))

/-- `CMP` abs, opcode `$CD` (R234, `T_ABS_R`). -/
def execCmpAbs (w : Word) (s : State) : Host.Outcome State Fault Refusal :=
  .next (s.runInstr [0xCD#8, lo w, hi w] (tAbsR aluCmp))

/-- `CMP` izy, opcode `$D1` (R234, `T_IZY_R`). -/
def execCmpIzy (b : Byte) (s : State) : Host.Outcome State Fault Refusal :=
  .next (s.runInstr [0xD1#8, b] (tIzyR aluCmp))

/-- `CMP` zpx, opcode `$D5` (R234, `T_ZPX_R`). -/
def execCmpZpx (b : Byte) (s : State) : Host.Outcome State Fault Refusal :=
  .next (s.runInstr [0xD5#8, b] (tZpIdxR (·.x) aluCmp))

/-- `CMP` aby, opcode `$D9` (R234, `T_ABY_R`). -/
def execCmpAby (w : Word) (s : State) : Host.Outcome State Fault Refusal :=
  .next (s.runInstr [0xD9#8, lo w, hi w] (tAbsIdxR (·.y) aluCmp))

/-- `CMP` abx, opcode `$DD` (R234, `T_ABX_R`). -/
def execCmpAbx (w : Word) (s : State) : Host.Outcome State Fault Refusal :=
  .next (s.runInstr [0xDD#8, lo w, hi w] (tAbsIdxR (·.x) aluCmp))

/-- `CPX` imm, opcode `$E0` (R235, `T_IMM`). -/
def execCpxImm (b : Byte) (s : State) : Host.Outcome State Fault Refusal :=
  .next (s.runInstr [0xE0#8, b] (tImm aluCpx))

/-- `CPX` zp, opcode `$E4` (R235, `T_ZP_R`). -/
def execCpxZp (b : Byte) (s : State) : Host.Outcome State Fault Refusal :=
  .next (s.runInstr [0xE4#8, b] (tZpR aluCpx))

/-- `CPX` abs, opcode `$EC` (R235, `T_ABS_R`). -/
def execCpxAbs (w : Word) (s : State) : Host.Outcome State Fault Refusal :=
  .next (s.runInstr [0xEC#8, lo w, hi w] (tAbsR aluCpx))

/-- `CPY` imm, opcode `$C0` (R236, `T_IMM`). -/
def execCpyImm (b : Byte) (s : State) : Host.Outcome State Fault Refusal :=
  .next (s.runInstr [0xC0#8, b] (tImm aluCpy))

/-- `CPY` zp, opcode `$C4` (R236, `T_ZP_R`). -/
def execCpyZp (b : Byte) (s : State) : Host.Outcome State Fault Refusal :=
  .next (s.runInstr [0xC4#8, b] (tZpR aluCpy))

/-- `CPY` abs, opcode `$CC` (R236, `T_ABS_R`). -/
def execCpyAbs (w : Word) (s : State) : Host.Outcome State Fault Refusal :=
  .next (s.runInstr [0xCC#8, lo w, hi w] (tAbsR aluCpy))

/-- `INC` zp, opcode `$E6` (R237, `T_ZP_M`). -/
def execIncZp (b : Byte) (s : State) : Host.Outcome State Fault Refusal :=
  .next (s.runInstr [0xE6#8, b] (tZpM aluInc))

/-- `INC` abs, opcode `$EE` (R237, `T_ABS_M`). -/
def execIncAbs (w : Word) (s : State) : Host.Outcome State Fault Refusal :=
  .next (s.runInstr [0xEE#8, lo w, hi w] (tAbsM aluInc))

/-- `INC` zpx, opcode `$F6` (R237, `T_ZPX_M`). -/
def execIncZpx (b : Byte) (s : State) : Host.Outcome State Fault Refusal :=
  .next (s.runInstr [0xF6#8, b] (tZpIdxM (·.x) aluInc))

/-- `INC` abx, opcode `$FE` (R237, `T_ABX_M`). -/
def execIncAbx (w : Word) (s : State) : Host.Outcome State Fault Refusal :=
  .next (s.runInstr [0xFE#8, lo w, hi w] (tAbsIdxM (·.x) aluInc))

/-- `DEC` zp, opcode `$C6` (R238, `T_ZP_M`). -/
def execDecZp (b : Byte) (s : State) : Host.Outcome State Fault Refusal :=
  .next (s.runInstr [0xC6#8, b] (tZpM aluDec))

/-- `DEC` abs, opcode `$CE` (R238, `T_ABS_M`). -/
def execDecAbs (w : Word) (s : State) : Host.Outcome State Fault Refusal :=
  .next (s.runInstr [0xCE#8, lo w, hi w] (tAbsM aluDec))

/-- `DEC` zpx, opcode `$D6` (R238, `T_ZPX_M`). -/
def execDecZpx (b : Byte) (s : State) : Host.Outcome State Fault Refusal :=
  .next (s.runInstr [0xD6#8, b] (tZpIdxM (·.x) aluDec))

/-- `DEC` abx, opcode `$DE` (R238, `T_ABX_M`). -/
def execDecAbx (w : Word) (s : State) : Host.Outcome State Fault Refusal :=
  .next (s.runInstr [0xDE#8, lo w, hi w] (tAbsIdxM (·.x) aluDec))

/-- `INX` imp, opcode `$E8` (R239, `T_IMP`). -/
def execInx (s : State) : Host.Outcome State Fault Refusal :=
  .next (s.runInstr [0xE8#8] (tImp aluInx))

/-- `INY` imp, opcode `$C8` (R240, `T_IMP`). -/
def execIny (s : State) : Host.Outcome State Fault Refusal :=
  .next (s.runInstr [0xC8#8] (tImp aluIny))

/-- `DEX` imp, opcode `$CA` (R241, `T_IMP`). -/
def execDex (s : State) : Host.Outcome State Fault Refusal :=
  .next (s.runInstr [0xCA#8] (tImp aluDex))

/-- `DEY` imp, opcode `$88` (R242, `T_IMP`). -/
def execDey (s : State) : Host.Outcome State Fault Refusal :=
  .next (s.runInstr [0x88#8] (tImp aluDey))

end Sys2Proof.Machine
end

