-- ==== Sys2Proof/Machine/ControlFlow.lean ====
section
/-! DEFINITION. The meanings of the jumps, subroutines, software interrupt, branches (45_control_flow.md R270 to R284):
each one the fetch of its bytes and the rows of its cycle template with its data operation, one definition per opcode. -/

namespace Sys2Proof.Machine

/-- `JMP` abs, opcode `$4C` (R270, `T_JMP_ABS`). -/
def execJmpAbs (w : Word) (s : State) : Host.Outcome State Fault Refusal :=
  .next (s.runInstr [0x4C#8, lo w, hi w] (tJmpAbs))

/-- `JMP` ind, opcode `$6C` (R271, `T_JMP_IND`). -/
def execJmpInd (w : Word) (s : State) : Host.Outcome State Fault Refusal :=
  .next (s.runInstr [0x6C#8, lo w, hi w] (tJmpInd))

/-- `JSR` abs, opcode `$20` (R272, `T_JSR`). -/
def execJsr (w : Word) (s : State) : Host.Outcome State Fault Refusal :=
  .next (s.runInstr [0x20#8, lo w] (tJsr))

/-- `RTS` imp, opcode `$60` (R273, `T_RTS`). -/
def execRts (s : State) : Host.Outcome State Fault Refusal :=
  .next (s.runInstr [0x60#8] (tRts))

/-- `RTI` imp, opcode `$40` (R274, `T_RTI`). -/
def execRti (s : State) : Host.Outcome State Fault Refusal :=
  .next (s.runInstr [0x40#8] (rtiRows))

/-- `BRK` imp, opcode `$00` (R275, `T_BRK`). -/
def execBrk (s : State) : Host.Outcome State Fault Refusal :=
  .next (s.runInstr [0x00#8] (brkRows))

/-- `BPL` rel, opcode `$10` (R277, `T_REL`). -/
def execBpl (b : Byte) (s : State) : Host.Outcome State Fault Refusal :=
  .next (s.runInstr [0x10#8, b] (tRel fun p => !p.n))

/-- `BMI` rel, opcode `$30` (R278, `T_REL`). -/
def execBmi (b : Byte) (s : State) : Host.Outcome State Fault Refusal :=
  .next (s.runInstr [0x30#8, b] (tRel fun p => p.n))

/-- `BVC` rel, opcode `$50` (R279, `T_REL`). -/
def execBvc (b : Byte) (s : State) : Host.Outcome State Fault Refusal :=
  .next (s.runInstr [0x50#8, b] (tRel fun p => !p.v))

/-- `BVS` rel, opcode `$70` (R280, `T_REL`). -/
def execBvs (b : Byte) (s : State) : Host.Outcome State Fault Refusal :=
  .next (s.runInstr [0x70#8, b] (tRel fun p => p.v))

/-- `BCC` rel, opcode `$90` (R281, `T_REL`). -/
def execBcc (b : Byte) (s : State) : Host.Outcome State Fault Refusal :=
  .next (s.runInstr [0x90#8, b] (tRel fun p => !p.c))

/-- `BCS` rel, opcode `$B0` (R282, `T_REL`). -/
def execBcs (b : Byte) (s : State) : Host.Outcome State Fault Refusal :=
  .next (s.runInstr [0xB0#8, b] (tRel fun p => p.c))

/-- `BNE` rel, opcode `$D0` (R283, `T_REL`). -/
def execBne (b : Byte) (s : State) : Host.Outcome State Fault Refusal :=
  .next (s.runInstr [0xD0#8, b] (tRel fun p => !p.z))

/-- `BEQ` rel, opcode `$F0` (R284, `T_REL`). -/
def execBeq (b : Byte) (s : State) : Host.Outcome State Fault Refusal :=
  .next (s.runInstr [0xF0#8, b] (tRel fun p => p.z))

end Sys2Proof.Machine
end

