-- ==== Sys2Proof/Machine/FlagOps.lean ====
section
/-! DEFINITION. The meanings of the flag instructions and the documented NOP (46_flags_nop.md R290 to R297):
each one the fetch of its bytes and the rows of its cycle template with its data operation, one definition per opcode. -/

namespace Sys2Proof.Machine

/-- `CLC` imp, opcode `$18` (R290, `T_IMP`). -/
def execClc (s : State) : Host.Outcome State Fault Refusal :=
  .next (s.runInstr [0x18#8] (tImp aluClc))

/-- `SEC` imp, opcode `$38` (R291, `T_IMP`). -/
def execSec (s : State) : Host.Outcome State Fault Refusal :=
  .next (s.runInstr [0x38#8] (tImp aluSec))

/-- `CLI` imp, opcode `$58` (R292, `T_IMP`). -/
def execCli (s : State) : Host.Outcome State Fault Refusal :=
  .next (s.runInstr [0x58#8] (tImp aluCli))

/-- `SEI` imp, opcode `$78` (R293, `T_IMP`). -/
def execSei (s : State) : Host.Outcome State Fault Refusal :=
  .next (s.runInstr [0x78#8] (tImp aluSei))

/-- `CLD` imp, opcode `$D8` (R294, `T_IMP`). -/
def execCld (s : State) : Host.Outcome State Fault Refusal :=
  .next (s.runInstr [0xD8#8] (tImp aluCld))

/-- `SED` imp, opcode `$F8` (R295, `T_IMP`). -/
def execSed (s : State) : Host.Outcome State Fault Refusal :=
  .next (s.runInstr [0xF8#8] (tImp aluSed))

/-- `CLV` imp, opcode `$B8` (R296, `T_IMP`). -/
def execClv (s : State) : Host.Outcome State Fault Refusal :=
  .next (s.runInstr [0xB8#8] (tImp aluClv))

/-- `NOP` imp, opcode `$EA` (R297, `T_IMP`). -/
def execNop (s : State) : Host.Outcome State Fault Refusal :=
  .next (s.runInstr [0xEA#8] (tImp id))

end Sys2Proof.Machine
end

