-- ==== Sys2Proof/Machine/LoadStore.lean ====
section
/-! DEFINITION. The meanings of the loads, stores and register transfers (41_load_store_transfer.md R200 to R211):
each one the fetch of its bytes and the rows of its cycle template with its data operation, one definition per opcode. -/

namespace Sys2Proof.Machine

/-- `LDA` izx, opcode `$A1` (R200, `T_IZX_R`). -/
def execLdaIzx (b : Byte) (s : State) : Host.Outcome State Fault Refusal :=
  .next (s.runInstr [0xA1#8, b] (tIzxR aluLda))

/-- `LDA` zp, opcode `$A5` (R200, `T_ZP_R`). -/
def execLdaZp (b : Byte) (s : State) : Host.Outcome State Fault Refusal :=
  .next (s.runInstr [0xA5#8, b] (tZpR aluLda))

/-- `LDA` imm, opcode `$A9` (R200, `T_IMM`). -/
def execLdaImm (b : Byte) (s : State) : Host.Outcome State Fault Refusal :=
  .next (s.runInstr [0xA9#8, b] (tImm aluLda))

/-- `LDA` abs, opcode `$AD` (R200, `T_ABS_R`). -/
def execLdaAbs (w : Word) (s : State) : Host.Outcome State Fault Refusal :=
  .next (s.runInstr [0xAD#8, lo w, hi w] (tAbsR aluLda))

/-- `LDA` izy, opcode `$B1` (R200, `T_IZY_R`). -/
def execLdaIzy (b : Byte) (s : State) : Host.Outcome State Fault Refusal :=
  .next (s.runInstr [0xB1#8, b] (tIzyR aluLda))

/-- `LDA` zpx, opcode `$B5` (R200, `T_ZPX_R`). -/
def execLdaZpx (b : Byte) (s : State) : Host.Outcome State Fault Refusal :=
  .next (s.runInstr [0xB5#8, b] (tZpIdxR (·.x) aluLda))

/-- `LDA` aby, opcode `$B9` (R200, `T_ABY_R`). -/
def execLdaAby (w : Word) (s : State) : Host.Outcome State Fault Refusal :=
  .next (s.runInstr [0xB9#8, lo w, hi w] (tAbsIdxR (·.y) aluLda))

/-- `LDA` abx, opcode `$BD` (R200, `T_ABX_R`). -/
def execLdaAbx (w : Word) (s : State) : Host.Outcome State Fault Refusal :=
  .next (s.runInstr [0xBD#8, lo w, hi w] (tAbsIdxR (·.x) aluLda))

/-- `LDX` imm, opcode `$A2` (R201, `T_IMM`). -/
def execLdxImm (b : Byte) (s : State) : Host.Outcome State Fault Refusal :=
  .next (s.runInstr [0xA2#8, b] (tImm aluLdx))

/-- `LDX` zp, opcode `$A6` (R201, `T_ZP_R`). -/
def execLdxZp (b : Byte) (s : State) : Host.Outcome State Fault Refusal :=
  .next (s.runInstr [0xA6#8, b] (tZpR aluLdx))

/-- `LDX` abs, opcode `$AE` (R201, `T_ABS_R`). -/
def execLdxAbs (w : Word) (s : State) : Host.Outcome State Fault Refusal :=
  .next (s.runInstr [0xAE#8, lo w, hi w] (tAbsR aluLdx))

/-- `LDX` zpy, opcode `$B6` (R201, `T_ZPY_R`). -/
def execLdxZpy (b : Byte) (s : State) : Host.Outcome State Fault Refusal :=
  .next (s.runInstr [0xB6#8, b] (tZpIdxR (·.y) aluLdx))

/-- `LDX` aby, opcode `$BE` (R201, `T_ABY_R`). -/
def execLdxAby (w : Word) (s : State) : Host.Outcome State Fault Refusal :=
  .next (s.runInstr [0xBE#8, lo w, hi w] (tAbsIdxR (·.y) aluLdx))

/-- `LDY` imm, opcode `$A0` (R202, `T_IMM`). -/
def execLdyImm (b : Byte) (s : State) : Host.Outcome State Fault Refusal :=
  .next (s.runInstr [0xA0#8, b] (tImm aluLdy))

/-- `LDY` zp, opcode `$A4` (R202, `T_ZP_R`). -/
def execLdyZp (b : Byte) (s : State) : Host.Outcome State Fault Refusal :=
  .next (s.runInstr [0xA4#8, b] (tZpR aluLdy))

/-- `LDY` abs, opcode `$AC` (R202, `T_ABS_R`). -/
def execLdyAbs (w : Word) (s : State) : Host.Outcome State Fault Refusal :=
  .next (s.runInstr [0xAC#8, lo w, hi w] (tAbsR aluLdy))

/-- `LDY` zpx, opcode `$B4` (R202, `T_ZPX_R`). -/
def execLdyZpx (b : Byte) (s : State) : Host.Outcome State Fault Refusal :=
  .next (s.runInstr [0xB4#8, b] (tZpIdxR (·.x) aluLdy))

/-- `LDY` abx, opcode `$BC` (R202, `T_ABX_R`). -/
def execLdyAbx (w : Word) (s : State) : Host.Outcome State Fault Refusal :=
  .next (s.runInstr [0xBC#8, lo w, hi w] (tAbsIdxR (·.x) aluLdy))

/-- `STA` izx, opcode `$81` (R203, `T_IZX_W`). -/
def execStaIzx (b : Byte) (s : State) : Host.Outcome State Fault Refusal :=
  .next (s.runInstr [0x81#8, b] (tIzxW aluSta))

/-- `STA` zp, opcode `$85` (R203, `T_ZP_W`). -/
def execStaZp (b : Byte) (s : State) : Host.Outcome State Fault Refusal :=
  .next (s.runInstr [0x85#8, b] (tZpW aluSta))

/-- `STA` abs, opcode `$8D` (R203, `T_ABS_W`). -/
def execStaAbs (w : Word) (s : State) : Host.Outcome State Fault Refusal :=
  .next (s.runInstr [0x8D#8, lo w, hi w] (tAbsW aluSta))

/-- `STA` izy, opcode `$91` (R203, `T_IZY_W`). -/
def execStaIzy (b : Byte) (s : State) : Host.Outcome State Fault Refusal :=
  .next (s.runInstr [0x91#8, b] (tIzyW aluSta))

/-- `STA` zpx, opcode `$95` (R203, `T_ZPX_W`). -/
def execStaZpx (b : Byte) (s : State) : Host.Outcome State Fault Refusal :=
  .next (s.runInstr [0x95#8, b] (tZpIdxW (·.x) aluSta))

/-- `STA` aby, opcode `$99` (R203, `T_ABY_W`). -/
def execStaAby (w : Word) (s : State) : Host.Outcome State Fault Refusal :=
  .next (s.runInstr [0x99#8, lo w, hi w] (tAbsIdxW (·.y) aluSta))

/-- `STA` abx, opcode `$9D` (R203, `T_ABX_W`). -/
def execStaAbx (w : Word) (s : State) : Host.Outcome State Fault Refusal :=
  .next (s.runInstr [0x9D#8, lo w, hi w] (tAbsIdxW (·.x) aluSta))

/-- `STX` zp, opcode `$86` (R204, `T_ZP_W`). -/
def execStxZp (b : Byte) (s : State) : Host.Outcome State Fault Refusal :=
  .next (s.runInstr [0x86#8, b] (tZpW aluStx))

/-- `STX` abs, opcode `$8E` (R204, `T_ABS_W`). -/
def execStxAbs (w : Word) (s : State) : Host.Outcome State Fault Refusal :=
  .next (s.runInstr [0x8E#8, lo w, hi w] (tAbsW aluStx))

/-- `STX` zpy, opcode `$96` (R204, `T_ZPY_W`). -/
def execStxZpy (b : Byte) (s : State) : Host.Outcome State Fault Refusal :=
  .next (s.runInstr [0x96#8, b] (tZpIdxW (·.y) aluStx))

/-- `STY` zp, opcode `$84` (R205, `T_ZP_W`). -/
def execStyZp (b : Byte) (s : State) : Host.Outcome State Fault Refusal :=
  .next (s.runInstr [0x84#8, b] (tZpW aluSty))

/-- `STY` abs, opcode `$8C` (R205, `T_ABS_W`). -/
def execStyAbs (w : Word) (s : State) : Host.Outcome State Fault Refusal :=
  .next (s.runInstr [0x8C#8, lo w, hi w] (tAbsW aluSty))

/-- `STY` zpx, opcode `$94` (R205, `T_ZPX_W`). -/
def execStyZpx (b : Byte) (s : State) : Host.Outcome State Fault Refusal :=
  .next (s.runInstr [0x94#8, b] (tZpIdxW (·.x) aluSty))

/-- `TAX` imp, opcode `$AA` (R206, `T_IMP`). -/
def execTax (s : State) : Host.Outcome State Fault Refusal :=
  .next (s.runInstr [0xAA#8] (tImp aluTax))

/-- `TAY` imp, opcode `$A8` (R207, `T_IMP`). -/
def execTay (s : State) : Host.Outcome State Fault Refusal :=
  .next (s.runInstr [0xA8#8] (tImp aluTay))

/-- `TXA` imp, opcode `$8A` (R208, `T_IMP`). -/
def execTxa (s : State) : Host.Outcome State Fault Refusal :=
  .next (s.runInstr [0x8A#8] (tImp aluTxa))

/-- `TYA` imp, opcode `$98` (R209, `T_IMP`). -/
def execTya (s : State) : Host.Outcome State Fault Refusal :=
  .next (s.runInstr [0x98#8] (tImp aluTya))

/-- `TSX` imp, opcode `$BA` (R210, `T_IMP`). -/
def execTsx (s : State) : Host.Outcome State Fault Refusal :=
  .next (s.runInstr [0xBA#8] (tImp aluTsx))

/-- `TXS` imp, opcode `$9A` (R211, `T_IMP`). -/
def execTxs (s : State) : Host.Outcome State Fault Refusal :=
  .next (s.runInstr [0x9A#8] (tImp aluTxs))

end Sys2Proof.Machine
end

