-- ==== Sys2Proof/Machine/Logic.lean ====
section
/-! DEFINITION. The meanings of the logic, bit test, shifts and rotates (44_logic_shift.md R250 to R257):
each one the fetch of its bytes and the rows of its cycle template with its data operation, one definition per opcode. -/

namespace Sys2Proof.Machine

/-- `AND` izx, opcode `$21` (R250, `T_IZX_R`). -/
def execAndIzx (b : Byte) (s : State) : Host.Outcome State Fault Refusal :=
  .next (s.runInstr [0x21#8, b] (tIzxR aluAnd))

/-- `AND` zp, opcode `$25` (R250, `T_ZP_R`). -/
def execAndZp (b : Byte) (s : State) : Host.Outcome State Fault Refusal :=
  .next (s.runInstr [0x25#8, b] (tZpR aluAnd))

/-- `AND` imm, opcode `$29` (R250, `T_IMM`). -/
def execAndImm (b : Byte) (s : State) : Host.Outcome State Fault Refusal :=
  .next (s.runInstr [0x29#8, b] (tImm aluAnd))

/-- `AND` abs, opcode `$2D` (R250, `T_ABS_R`). -/
def execAndAbs (w : Word) (s : State) : Host.Outcome State Fault Refusal :=
  .next (s.runInstr [0x2D#8, lo w, hi w] (tAbsR aluAnd))

/-- `AND` izy, opcode `$31` (R250, `T_IZY_R`). -/
def execAndIzy (b : Byte) (s : State) : Host.Outcome State Fault Refusal :=
  .next (s.runInstr [0x31#8, b] (tIzyR aluAnd))

/-- `AND` zpx, opcode `$35` (R250, `T_ZPX_R`). -/
def execAndZpx (b : Byte) (s : State) : Host.Outcome State Fault Refusal :=
  .next (s.runInstr [0x35#8, b] (tZpIdxR (·.x) aluAnd))

/-- `AND` aby, opcode `$39` (R250, `T_ABY_R`). -/
def execAndAby (w : Word) (s : State) : Host.Outcome State Fault Refusal :=
  .next (s.runInstr [0x39#8, lo w, hi w] (tAbsIdxR (·.y) aluAnd))

/-- `AND` abx, opcode `$3D` (R250, `T_ABX_R`). -/
def execAndAbx (w : Word) (s : State) : Host.Outcome State Fault Refusal :=
  .next (s.runInstr [0x3D#8, lo w, hi w] (tAbsIdxR (·.x) aluAnd))

/-- `ORA` izx, opcode `$01` (R251, `T_IZX_R`). -/
def execOraIzx (b : Byte) (s : State) : Host.Outcome State Fault Refusal :=
  .next (s.runInstr [0x01#8, b] (tIzxR aluOra))

/-- `ORA` zp, opcode `$05` (R251, `T_ZP_R`). -/
def execOraZp (b : Byte) (s : State) : Host.Outcome State Fault Refusal :=
  .next (s.runInstr [0x05#8, b] (tZpR aluOra))

/-- `ORA` imm, opcode `$09` (R251, `T_IMM`). -/
def execOraImm (b : Byte) (s : State) : Host.Outcome State Fault Refusal :=
  .next (s.runInstr [0x09#8, b] (tImm aluOra))

/-- `ORA` abs, opcode `$0D` (R251, `T_ABS_R`). -/
def execOraAbs (w : Word) (s : State) : Host.Outcome State Fault Refusal :=
  .next (s.runInstr [0x0D#8, lo w, hi w] (tAbsR aluOra))

/-- `ORA` izy, opcode `$11` (R251, `T_IZY_R`). -/
def execOraIzy (b : Byte) (s : State) : Host.Outcome State Fault Refusal :=
  .next (s.runInstr [0x11#8, b] (tIzyR aluOra))

/-- `ORA` zpx, opcode `$15` (R251, `T_ZPX_R`). -/
def execOraZpx (b : Byte) (s : State) : Host.Outcome State Fault Refusal :=
  .next (s.runInstr [0x15#8, b] (tZpIdxR (·.x) aluOra))

/-- `ORA` aby, opcode `$19` (R251, `T_ABY_R`). -/
def execOraAby (w : Word) (s : State) : Host.Outcome State Fault Refusal :=
  .next (s.runInstr [0x19#8, lo w, hi w] (tAbsIdxR (·.y) aluOra))

/-- `ORA` abx, opcode `$1D` (R251, `T_ABX_R`). -/
def execOraAbx (w : Word) (s : State) : Host.Outcome State Fault Refusal :=
  .next (s.runInstr [0x1D#8, lo w, hi w] (tAbsIdxR (·.x) aluOra))

/-- `EOR` izx, opcode `$41` (R252, `T_IZX_R`). -/
def execEorIzx (b : Byte) (s : State) : Host.Outcome State Fault Refusal :=
  .next (s.runInstr [0x41#8, b] (tIzxR aluEor))

/-- `EOR` zp, opcode `$45` (R252, `T_ZP_R`). -/
def execEorZp (b : Byte) (s : State) : Host.Outcome State Fault Refusal :=
  .next (s.runInstr [0x45#8, b] (tZpR aluEor))

/-- `EOR` imm, opcode `$49` (R252, `T_IMM`). -/
def execEorImm (b : Byte) (s : State) : Host.Outcome State Fault Refusal :=
  .next (s.runInstr [0x49#8, b] (tImm aluEor))

/-- `EOR` abs, opcode `$4D` (R252, `T_ABS_R`). -/
def execEorAbs (w : Word) (s : State) : Host.Outcome State Fault Refusal :=
  .next (s.runInstr [0x4D#8, lo w, hi w] (tAbsR aluEor))

/-- `EOR` izy, opcode `$51` (R252, `T_IZY_R`). -/
def execEorIzy (b : Byte) (s : State) : Host.Outcome State Fault Refusal :=
  .next (s.runInstr [0x51#8, b] (tIzyR aluEor))

/-- `EOR` zpx, opcode `$55` (R252, `T_ZPX_R`). -/
def execEorZpx (b : Byte) (s : State) : Host.Outcome State Fault Refusal :=
  .next (s.runInstr [0x55#8, b] (tZpIdxR (·.x) aluEor))

/-- `EOR` aby, opcode `$59` (R252, `T_ABY_R`). -/
def execEorAby (w : Word) (s : State) : Host.Outcome State Fault Refusal :=
  .next (s.runInstr [0x59#8, lo w, hi w] (tAbsIdxR (·.y) aluEor))

/-- `EOR` abx, opcode `$5D` (R252, `T_ABX_R`). -/
def execEorAbx (w : Word) (s : State) : Host.Outcome State Fault Refusal :=
  .next (s.runInstr [0x5D#8, lo w, hi w] (tAbsIdxR (·.x) aluEor))

/-- `BIT` zp, opcode `$24` (R253, `T_ZP_R`). -/
def execBitZp (b : Byte) (s : State) : Host.Outcome State Fault Refusal :=
  .next (s.runInstr [0x24#8, b] (tZpR aluBit))

/-- `BIT` abs, opcode `$2C` (R253, `T_ABS_R`). -/
def execBitAbs (w : Word) (s : State) : Host.Outcome State Fault Refusal :=
  .next (s.runInstr [0x2C#8, lo w, hi w] (tAbsR aluBit))

/-- `ASL` zp, opcode `$06` (R254, `T_ZP_M`). -/
def execAslZp (b : Byte) (s : State) : Host.Outcome State Fault Refusal :=
  .next (s.runInstr [0x06#8, b] (tZpM aluAsl))

/-- `ASL` acc, opcode `$0A` (R254, `T_IMP`). -/
def execAslA (s : State) : Host.Outcome State Fault Refusal :=
  .next (s.runInstr [0x0A#8] (tImp (onA aluAsl)))

/-- `ASL` abs, opcode `$0E` (R254, `T_ABS_M`). -/
def execAslAbs (w : Word) (s : State) : Host.Outcome State Fault Refusal :=
  .next (s.runInstr [0x0E#8, lo w, hi w] (tAbsM aluAsl))

/-- `ASL` zpx, opcode `$16` (R254, `T_ZPX_M`). -/
def execAslZpx (b : Byte) (s : State) : Host.Outcome State Fault Refusal :=
  .next (s.runInstr [0x16#8, b] (tZpIdxM (·.x) aluAsl))

/-- `ASL` abx, opcode `$1E` (R254, `T_ABX_M`). -/
def execAslAbx (w : Word) (s : State) : Host.Outcome State Fault Refusal :=
  .next (s.runInstr [0x1E#8, lo w, hi w] (tAbsIdxM (·.x) aluAsl))

/-- `LSR` zp, opcode `$46` (R255, `T_ZP_M`). -/
def execLsrZp (b : Byte) (s : State) : Host.Outcome State Fault Refusal :=
  .next (s.runInstr [0x46#8, b] (tZpM aluLsr))

/-- `LSR` acc, opcode `$4A` (R255, `T_IMP`). -/
def execLsrA (s : State) : Host.Outcome State Fault Refusal :=
  .next (s.runInstr [0x4A#8] (tImp (onA aluLsr)))

/-- `LSR` abs, opcode `$4E` (R255, `T_ABS_M`). -/
def execLsrAbs (w : Word) (s : State) : Host.Outcome State Fault Refusal :=
  .next (s.runInstr [0x4E#8, lo w, hi w] (tAbsM aluLsr))

/-- `LSR` zpx, opcode `$56` (R255, `T_ZPX_M`). -/
def execLsrZpx (b : Byte) (s : State) : Host.Outcome State Fault Refusal :=
  .next (s.runInstr [0x56#8, b] (tZpIdxM (·.x) aluLsr))

/-- `LSR` abx, opcode `$5E` (R255, `T_ABX_M`). -/
def execLsrAbx (w : Word) (s : State) : Host.Outcome State Fault Refusal :=
  .next (s.runInstr [0x5E#8, lo w, hi w] (tAbsIdxM (·.x) aluLsr))

/-- `ROL` zp, opcode `$26` (R256, `T_ZP_M`). -/
def execRolZp (b : Byte) (s : State) : Host.Outcome State Fault Refusal :=
  .next (s.runInstr [0x26#8, b] (tZpM aluRol))

/-- `ROL` acc, opcode `$2A` (R256, `T_IMP`). -/
def execRolA (s : State) : Host.Outcome State Fault Refusal :=
  .next (s.runInstr [0x2A#8] (tImp (onA aluRol)))

/-- `ROL` abs, opcode `$2E` (R256, `T_ABS_M`). -/
def execRolAbs (w : Word) (s : State) : Host.Outcome State Fault Refusal :=
  .next (s.runInstr [0x2E#8, lo w, hi w] (tAbsM aluRol))

/-- `ROL` zpx, opcode `$36` (R256, `T_ZPX_M`). -/
def execRolZpx (b : Byte) (s : State) : Host.Outcome State Fault Refusal :=
  .next (s.runInstr [0x36#8, b] (tZpIdxM (·.x) aluRol))

/-- `ROL` abx, opcode `$3E` (R256, `T_ABX_M`). -/
def execRolAbx (w : Word) (s : State) : Host.Outcome State Fault Refusal :=
  .next (s.runInstr [0x3E#8, lo w, hi w] (tAbsIdxM (·.x) aluRol))

/-- `ROR` zp, opcode `$66` (R257, `T_ZP_M`). -/
def execRorZp (b : Byte) (s : State) : Host.Outcome State Fault Refusal :=
  .next (s.runInstr [0x66#8, b] (tZpM aluRor))

/-- `ROR` acc, opcode `$6A` (R257, `T_IMP`). -/
def execRorA (s : State) : Host.Outcome State Fault Refusal :=
  .next (s.runInstr [0x6A#8] (tImp (onA aluRor)))

/-- `ROR` abs, opcode `$6E` (R257, `T_ABS_M`). -/
def execRorAbs (w : Word) (s : State) : Host.Outcome State Fault Refusal :=
  .next (s.runInstr [0x6E#8, lo w, hi w] (tAbsM aluRor))

/-- `ROR` zpx, opcode `$76` (R257, `T_ZPX_M`). -/
def execRorZpx (b : Byte) (s : State) : Host.Outcome State Fault Refusal :=
  .next (s.runInstr [0x76#8, b] (tZpIdxM (·.x) aluRor))

/-- `ROR` abx, opcode `$7E` (R257, `T_ABX_M`). -/
def execRorAbx (w : Word) (s : State) : Host.Outcome State Fault Refusal :=
  .next (s.runInstr [0x7E#8, lo w, hi w] (tAbsIdxM (·.x) aluRor))

end Sys2Proof.Machine
end

