-- ==== Sys2Proof/Machine/Stack.lean ====
section
/-! DEFINITION. The meanings of the pushes and pulls (42_stack.md R220 to R223):
each one the fetch of its bytes and the rows of its cycle template with its data operation, one definition per opcode. -/

namespace Sys2Proof.Machine

/-- `PHA` imp, opcode `$48` (R220, `T_PUSH`). -/
def execPha (s : State) : Host.Outcome State Fault Refusal :=
  .next (s.runInstr [0x48#8] (tPush (·.a)))

/-- `PHP` imp, opcode `$08` (R221, `T_PUSH`). -/
def execPhp (s : State) : Host.Outcome State Fault Refusal :=
  .next (s.runInstr [0x08#8] (tPush (·.p.push true)))

/-- `PLA` imp, opcode `$68` (R222, `T_PULL`). -/
def execPla (s : State) : Host.Outcome State Fault Refusal :=
  .next (s.runInstr [0x68#8] (tPull aluLda))

/-- `PLP` imp, opcode `$28` (R223, `T_PULL`). -/
def execPlp (s : State) : Host.Outcome State Fault Refusal :=
  .next (s.runInstr [0x28#8] (tPull aluPlp))

end Sys2Proof.Machine
end

