-- ==== Sys2Proof/Machine/Undocumented.lean ====
section
/-! DEFINITION. The meanings of the the undocumented instructions (47_undocumented.md R300 to R321):
each one the fetch of its bytes and the rows of its cycle template with its data operation, one definition per opcode. -/

namespace Sys2Proof.Machine

/-- `SLO` izx, opcode `$03` (R300, `T_IZX_M`). -/
def execSloIzx (b : Byte) (s : State) : Host.Outcome State Fault Refusal :=
  .next (s.runInstr [0x03#8, b] (tIzxM aluSlo))

/-- `SLO` zp, opcode `$07` (R300, `T_ZP_M`). -/
def execSloZp (b : Byte) (s : State) : Host.Outcome State Fault Refusal :=
  .next (s.runInstr [0x07#8, b] (tZpM aluSlo))

/-- `SLO` abs, opcode `$0F` (R300, `T_ABS_M`). -/
def execSloAbs (w : Word) (s : State) : Host.Outcome State Fault Refusal :=
  .next (s.runInstr [0x0F#8, lo w, hi w] (tAbsM aluSlo))

/-- `SLO` izy, opcode `$13` (R300, `T_IZY_M`). -/
def execSloIzy (b : Byte) (s : State) : Host.Outcome State Fault Refusal :=
  .next (s.runInstr [0x13#8, b] (tIzyM aluSlo))

/-- `SLO` zpx, opcode `$17` (R300, `T_ZPX_M`). -/
def execSloZpx (b : Byte) (s : State) : Host.Outcome State Fault Refusal :=
  .next (s.runInstr [0x17#8, b] (tZpIdxM (·.x) aluSlo))

/-- `SLO` aby, opcode `$1B` (R300, `T_ABY_M`). -/
def execSloAby (w : Word) (s : State) : Host.Outcome State Fault Refusal :=
  .next (s.runInstr [0x1B#8, lo w, hi w] (tAbsIdxM (·.y) aluSlo))

/-- `SLO` abx, opcode `$1F` (R300, `T_ABX_M`). -/
def execSloAbx (w : Word) (s : State) : Host.Outcome State Fault Refusal :=
  .next (s.runInstr [0x1F#8, lo w, hi w] (tAbsIdxM (·.x) aluSlo))

/-- `RLA` izx, opcode `$23` (R301, `T_IZX_M`). -/
def execRlaIzx (b : Byte) (s : State) : Host.Outcome State Fault Refusal :=
  .next (s.runInstr [0x23#8, b] (tIzxM aluRla))

/-- `RLA` zp, opcode `$27` (R301, `T_ZP_M`). -/
def execRlaZp (b : Byte) (s : State) : Host.Outcome State Fault Refusal :=
  .next (s.runInstr [0x27#8, b] (tZpM aluRla))

/-- `RLA` abs, opcode `$2F` (R301, `T_ABS_M`). -/
def execRlaAbs (w : Word) (s : State) : Host.Outcome State Fault Refusal :=
  .next (s.runInstr [0x2F#8, lo w, hi w] (tAbsM aluRla))

/-- `RLA` izy, opcode `$33` (R301, `T_IZY_M`). -/
def execRlaIzy (b : Byte) (s : State) : Host.Outcome State Fault Refusal :=
  .next (s.runInstr [0x33#8, b] (tIzyM aluRla))

/-- `RLA` zpx, opcode `$37` (R301, `T_ZPX_M`). -/
def execRlaZpx (b : Byte) (s : State) : Host.Outcome State Fault Refusal :=
  .next (s.runInstr [0x37#8, b] (tZpIdxM (·.x) aluRla))

/-- `RLA` aby, opcode `$3B` (R301, `T_ABY_M`). -/
def execRlaAby (w : Word) (s : State) : Host.Outcome State Fault Refusal :=
  .next (s.runInstr [0x3B#8, lo w, hi w] (tAbsIdxM (·.y) aluRla))

/-- `RLA` abx, opcode `$3F` (R301, `T_ABX_M`). -/
def execRlaAbx (w : Word) (s : State) : Host.Outcome State Fault Refusal :=
  .next (s.runInstr [0x3F#8, lo w, hi w] (tAbsIdxM (·.x) aluRla))

/-- `SRE` izx, opcode `$43` (R302, `T_IZX_M`). -/
def execSreIzx (b : Byte) (s : State) : Host.Outcome State Fault Refusal :=
  .next (s.runInstr [0x43#8, b] (tIzxM aluSre))

/-- `SRE` zp, opcode `$47` (R302, `T_ZP_M`). -/
def execSreZp (b : Byte) (s : State) : Host.Outcome State Fault Refusal :=
  .next (s.runInstr [0x47#8, b] (tZpM aluSre))

/-- `SRE` abs, opcode `$4F` (R302, `T_ABS_M`). -/
def execSreAbs (w : Word) (s : State) : Host.Outcome State Fault Refusal :=
  .next (s.runInstr [0x4F#8, lo w, hi w] (tAbsM aluSre))

/-- `SRE` izy, opcode `$53` (R302, `T_IZY_M`). -/
def execSreIzy (b : Byte) (s : State) : Host.Outcome State Fault Refusal :=
  .next (s.runInstr [0x53#8, b] (tIzyM aluSre))

/-- `SRE` zpx, opcode `$57` (R302, `T_ZPX_M`). -/
def execSreZpx (b : Byte) (s : State) : Host.Outcome State Fault Refusal :=
  .next (s.runInstr [0x57#8, b] (tZpIdxM (·.x) aluSre))

/-- `SRE` aby, opcode `$5B` (R302, `T_ABY_M`). -/
def execSreAby (w : Word) (s : State) : Host.Outcome State Fault Refusal :=
  .next (s.runInstr [0x5B#8, lo w, hi w] (tAbsIdxM (·.y) aluSre))

/-- `SRE` abx, opcode `$5F` (R302, `T_ABX_M`). -/
def execSreAbx (w : Word) (s : State) : Host.Outcome State Fault Refusal :=
  .next (s.runInstr [0x5F#8, lo w, hi w] (tAbsIdxM (·.x) aluSre))

/-- `RRA` izx, opcode `$63` (R303, `T_IZX_M`). -/
def execRraIzx (b : Byte) (s : State) : Host.Outcome State Fault Refusal :=
  .next (s.runInstr [0x63#8, b] (tIzxM aluRra))

/-- `RRA` zp, opcode `$67` (R303, `T_ZP_M`). -/
def execRraZp (b : Byte) (s : State) : Host.Outcome State Fault Refusal :=
  .next (s.runInstr [0x67#8, b] (tZpM aluRra))

/-- `RRA` abs, opcode `$6F` (R303, `T_ABS_M`). -/
def execRraAbs (w : Word) (s : State) : Host.Outcome State Fault Refusal :=
  .next (s.runInstr [0x6F#8, lo w, hi w] (tAbsM aluRra))

/-- `RRA` izy, opcode `$73` (R303, `T_IZY_M`). -/
def execRraIzy (b : Byte) (s : State) : Host.Outcome State Fault Refusal :=
  .next (s.runInstr [0x73#8, b] (tIzyM aluRra))

/-- `RRA` zpx, opcode `$77` (R303, `T_ZPX_M`). -/
def execRraZpx (b : Byte) (s : State) : Host.Outcome State Fault Refusal :=
  .next (s.runInstr [0x77#8, b] (tZpIdxM (·.x) aluRra))

/-- `RRA` aby, opcode `$7B` (R303, `T_ABY_M`). -/
def execRraAby (w : Word) (s : State) : Host.Outcome State Fault Refusal :=
  .next (s.runInstr [0x7B#8, lo w, hi w] (tAbsIdxM (·.y) aluRra))

/-- `RRA` abx, opcode `$7F` (R303, `T_ABX_M`). -/
def execRraAbx (w : Word) (s : State) : Host.Outcome State Fault Refusal :=
  .next (s.runInstr [0x7F#8, lo w, hi w] (tAbsIdxM (·.x) aluRra))

/-- `SAX` izx, opcode `$83` (R304, `T_IZX_W`). -/
def execSaxIzx (b : Byte) (s : State) : Host.Outcome State Fault Refusal :=
  .next (s.runInstr [0x83#8, b] (tIzxW aluSax))

/-- `SAX` zp, opcode `$87` (R304, `T_ZP_W`). -/
def execSaxZp (b : Byte) (s : State) : Host.Outcome State Fault Refusal :=
  .next (s.runInstr [0x87#8, b] (tZpW aluSax))

/-- `SAX` abs, opcode `$8F` (R304, `T_ABS_W`). -/
def execSaxAbs (w : Word) (s : State) : Host.Outcome State Fault Refusal :=
  .next (s.runInstr [0x8F#8, lo w, hi w] (tAbsW aluSax))

/-- `SAX` zpy, opcode `$97` (R304, `T_ZPY_W`). -/
def execSaxZpy (b : Byte) (s : State) : Host.Outcome State Fault Refusal :=
  .next (s.runInstr [0x97#8, b] (tZpIdxW (·.y) aluSax))

/-- `LAX` izx, opcode `$A3` (R305, `T_IZX_R`). -/
def execLaxIzx (b : Byte) (s : State) : Host.Outcome State Fault Refusal :=
  .next (s.runInstr [0xA3#8, b] (tIzxR aluLax))

/-- `LAX` zp, opcode `$A7` (R305, `T_ZP_R`). -/
def execLaxZp (b : Byte) (s : State) : Host.Outcome State Fault Refusal :=
  .next (s.runInstr [0xA7#8, b] (tZpR aluLax))

/-- `LAX` abs, opcode `$AF` (R305, `T_ABS_R`). -/
def execLaxAbs (w : Word) (s : State) : Host.Outcome State Fault Refusal :=
  .next (s.runInstr [0xAF#8, lo w, hi w] (tAbsR aluLax))

/-- `LAX` izy, opcode `$B3` (R305, `T_IZY_R`). -/
def execLaxIzy (b : Byte) (s : State) : Host.Outcome State Fault Refusal :=
  .next (s.runInstr [0xB3#8, b] (tIzyR aluLax))

/-- `LAX` zpy, opcode `$B7` (R305, `T_ZPY_R`). -/
def execLaxZpy (b : Byte) (s : State) : Host.Outcome State Fault Refusal :=
  .next (s.runInstr [0xB7#8, b] (tZpIdxR (·.y) aluLax))

/-- `LAX` aby, opcode `$BF` (R305, `T_ABY_R`). -/
def execLaxAby (w : Word) (s : State) : Host.Outcome State Fault Refusal :=
  .next (s.runInstr [0xBF#8, lo w, hi w] (tAbsIdxR (·.y) aluLax))

/-- `DCP` izx, opcode `$C3` (R306, `T_IZX_M`). -/
def execDcpIzx (b : Byte) (s : State) : Host.Outcome State Fault Refusal :=
  .next (s.runInstr [0xC3#8, b] (tIzxM aluDcp))

/-- `DCP` zp, opcode `$C7` (R306, `T_ZP_M`). -/
def execDcpZp (b : Byte) (s : State) : Host.Outcome State Fault Refusal :=
  .next (s.runInstr [0xC7#8, b] (tZpM aluDcp))

/-- `DCP` abs, opcode `$CF` (R306, `T_ABS_M`). -/
def execDcpAbs (w : Word) (s : State) : Host.Outcome State Fault Refusal :=
  .next (s.runInstr [0xCF#8, lo w, hi w] (tAbsM aluDcp))

/-- `DCP` izy, opcode `$D3` (R306, `T_IZY_M`). -/
def execDcpIzy (b : Byte) (s : State) : Host.Outcome State Fault Refusal :=
  .next (s.runInstr [0xD3#8, b] (tIzyM aluDcp))

/-- `DCP` zpx, opcode `$D7` (R306, `T_ZPX_M`). -/
def execDcpZpx (b : Byte) (s : State) : Host.Outcome State Fault Refusal :=
  .next (s.runInstr [0xD7#8, b] (tZpIdxM (·.x) aluDcp))

/-- `DCP` aby, opcode `$DB` (R306, `T_ABY_M`). -/
def execDcpAby (w : Word) (s : State) : Host.Outcome State Fault Refusal :=
  .next (s.runInstr [0xDB#8, lo w, hi w] (tAbsIdxM (·.y) aluDcp))

/-- `DCP` abx, opcode `$DF` (R306, `T_ABX_M`). -/
def execDcpAbx (w : Word) (s : State) : Host.Outcome State Fault Refusal :=
  .next (s.runInstr [0xDF#8, lo w, hi w] (tAbsIdxM (·.x) aluDcp))

/-- `ISC` izx, opcode `$E3` (R307, `T_IZX_M`). -/
def execIscIzx (b : Byte) (s : State) : Host.Outcome State Fault Refusal :=
  .next (s.runInstr [0xE3#8, b] (tIzxM aluIsc))

/-- `ISC` zp, opcode `$E7` (R307, `T_ZP_M`). -/
def execIscZp (b : Byte) (s : State) : Host.Outcome State Fault Refusal :=
  .next (s.runInstr [0xE7#8, b] (tZpM aluIsc))

/-- `ISC` abs, opcode `$EF` (R307, `T_ABS_M`). -/
def execIscAbs (w : Word) (s : State) : Host.Outcome State Fault Refusal :=
  .next (s.runInstr [0xEF#8, lo w, hi w] (tAbsM aluIsc))

/-- `ISC` izy, opcode `$F3` (R307, `T_IZY_M`). -/
def execIscIzy (b : Byte) (s : State) : Host.Outcome State Fault Refusal :=
  .next (s.runInstr [0xF3#8, b] (tIzyM aluIsc))

/-- `ISC` zpx, opcode `$F7` (R307, `T_ZPX_M`). -/
def execIscZpx (b : Byte) (s : State) : Host.Outcome State Fault Refusal :=
  .next (s.runInstr [0xF7#8, b] (tZpIdxM (·.x) aluIsc))

/-- `ISC` aby, opcode `$FB` (R307, `T_ABY_M`). -/
def execIscAby (w : Word) (s : State) : Host.Outcome State Fault Refusal :=
  .next (s.runInstr [0xFB#8, lo w, hi w] (tAbsIdxM (·.y) aluIsc))

/-- `ISC` abx, opcode `$FF` (R307, `T_ABX_M`). -/
def execIscAbx (w : Word) (s : State) : Host.Outcome State Fault Refusal :=
  .next (s.runInstr [0xFF#8, lo w, hi w] (tAbsIdxM (·.x) aluIsc))

/-- `ANC` imm, opcode `$0B` (R308, `T_IMM`). -/
def execAncImm0B (b : Byte) (s : State) : Host.Outcome State Fault Refusal :=
  .next (s.runInstr [0x0B#8, b] (tImm aluAnc))

/-- `ANC` imm, opcode `$2B` (R308, `T_IMM`). -/
def execAncImm2B (b : Byte) (s : State) : Host.Outcome State Fault Refusal :=
  .next (s.runInstr [0x2B#8, b] (tImm aluAnc))

/-- `ALR` imm, opcode `$4B` (R309, `T_IMM`). -/
def execAlrImm (b : Byte) (s : State) : Host.Outcome State Fault Refusal :=
  .next (s.runInstr [0x4B#8, b] (tImm aluAlr))

/-- `ARR` imm, opcode `$6B` (R310, `T_IMM`). -/
def execArrImm (b : Byte) (s : State) : Host.Outcome State Fault Refusal :=
  .next (s.runInstr [0x6B#8, b] (tImm aluArr))

/-- `SBX` imm, opcode `$CB` (R311, `T_IMM`). -/
def execSbxImm (b : Byte) (s : State) : Host.Outcome State Fault Refusal :=
  .next (s.runInstr [0xCB#8, b] (tImm aluSbx))

/-- `USBC` imm, opcode `$EB` (R312, `T_IMM`). -/
def execUsbcImm (b : Byte) (s : State) : Host.Outcome State Fault Refusal :=
  .next (s.runInstr [0xEB#8, b] (tImm aluUsbc))

/-- `NOP` zp, opcode `$04` (R313, `T_ZP_R`). -/
def execNopZp04 (b : Byte) (s : State) : Host.Outcome State Fault Refusal :=
  .next (s.runInstr [0x04#8, b] (tZpR aluNop))

/-- `NOP` abs, opcode `$0C` (R313, `T_ABS_R`). -/
def execNopAbs0C (w : Word) (s : State) : Host.Outcome State Fault Refusal :=
  .next (s.runInstr [0x0C#8, lo w, hi w] (tAbsR aluNop))

/-- `NOP` zpx, opcode `$14` (R313, `T_ZPX_R`). -/
def execNopZpx14 (b : Byte) (s : State) : Host.Outcome State Fault Refusal :=
  .next (s.runInstr [0x14#8, b] (tZpIdxR (·.x) aluNop))

/-- `NOP` imp, opcode `$1A` (R313, `T_IMP`). -/
def execNopImp1A (s : State) : Host.Outcome State Fault Refusal :=
  .next (s.runInstr [0x1A#8] (tImp id))

/-- `NOP` abx, opcode `$1C` (R313, `T_ABX_R`). -/
def execNopAbx1C (w : Word) (s : State) : Host.Outcome State Fault Refusal :=
  .next (s.runInstr [0x1C#8, lo w, hi w] (tAbsIdxR (·.x) aluNop))

/-- `NOP` zpx, opcode `$34` (R313, `T_ZPX_R`). -/
def execNopZpx34 (b : Byte) (s : State) : Host.Outcome State Fault Refusal :=
  .next (s.runInstr [0x34#8, b] (tZpIdxR (·.x) aluNop))

/-- `NOP` imp, opcode `$3A` (R313, `T_IMP`). -/
def execNopImp3A (s : State) : Host.Outcome State Fault Refusal :=
  .next (s.runInstr [0x3A#8] (tImp id))

/-- `NOP` abx, opcode `$3C` (R313, `T_ABX_R`). -/
def execNopAbx3C (w : Word) (s : State) : Host.Outcome State Fault Refusal :=
  .next (s.runInstr [0x3C#8, lo w, hi w] (tAbsIdxR (·.x) aluNop))

/-- `NOP` zp, opcode `$44` (R313, `T_ZP_R`). -/
def execNopZp44 (b : Byte) (s : State) : Host.Outcome State Fault Refusal :=
  .next (s.runInstr [0x44#8, b] (tZpR aluNop))

/-- `NOP` zpx, opcode `$54` (R313, `T_ZPX_R`). -/
def execNopZpx54 (b : Byte) (s : State) : Host.Outcome State Fault Refusal :=
  .next (s.runInstr [0x54#8, b] (tZpIdxR (·.x) aluNop))

/-- `NOP` imp, opcode `$5A` (R313, `T_IMP`). -/
def execNopImp5A (s : State) : Host.Outcome State Fault Refusal :=
  .next (s.runInstr [0x5A#8] (tImp id))

/-- `NOP` abx, opcode `$5C` (R313, `T_ABX_R`). -/
def execNopAbx5C (w : Word) (s : State) : Host.Outcome State Fault Refusal :=
  .next (s.runInstr [0x5C#8, lo w, hi w] (tAbsIdxR (·.x) aluNop))

/-- `NOP` zp, opcode `$64` (R313, `T_ZP_R`). -/
def execNopZp64 (b : Byte) (s : State) : Host.Outcome State Fault Refusal :=
  .next (s.runInstr [0x64#8, b] (tZpR aluNop))

/-- `NOP` zpx, opcode `$74` (R313, `T_ZPX_R`). -/
def execNopZpx74 (b : Byte) (s : State) : Host.Outcome State Fault Refusal :=
  .next (s.runInstr [0x74#8, b] (tZpIdxR (·.x) aluNop))

/-- `NOP` imp, opcode `$7A` (R313, `T_IMP`). -/
def execNopImp7A (s : State) : Host.Outcome State Fault Refusal :=
  .next (s.runInstr [0x7A#8] (tImp id))

/-- `NOP` abx, opcode `$7C` (R313, `T_ABX_R`). -/
def execNopAbx7C (w : Word) (s : State) : Host.Outcome State Fault Refusal :=
  .next (s.runInstr [0x7C#8, lo w, hi w] (tAbsIdxR (·.x) aluNop))

/-- `NOP` imm, opcode `$80` (R313, `T_IMM`). -/
def execNopImm80 (b : Byte) (s : State) : Host.Outcome State Fault Refusal :=
  .next (s.runInstr [0x80#8, b] (tImm aluNop))

/-- `NOP` imm, opcode `$82` (R313, `T_IMM`). -/
def execNopImm82 (b : Byte) (s : State) : Host.Outcome State Fault Refusal :=
  .next (s.runInstr [0x82#8, b] (tImm aluNop))

/-- `NOP` imm, opcode `$89` (R313, `T_IMM`). -/
def execNopImm89 (b : Byte) (s : State) : Host.Outcome State Fault Refusal :=
  .next (s.runInstr [0x89#8, b] (tImm aluNop))

/-- `NOP` imm, opcode `$C2` (R313, `T_IMM`). -/
def execNopImmC2 (b : Byte) (s : State) : Host.Outcome State Fault Refusal :=
  .next (s.runInstr [0xC2#8, b] (tImm aluNop))

/-- `NOP` zpx, opcode `$D4` (R313, `T_ZPX_R`). -/
def execNopZpxD4 (b : Byte) (s : State) : Host.Outcome State Fault Refusal :=
  .next (s.runInstr [0xD4#8, b] (tZpIdxR (·.x) aluNop))

/-- `NOP` imp, opcode `$DA` (R313, `T_IMP`). -/
def execNopImpDA (s : State) : Host.Outcome State Fault Refusal :=
  .next (s.runInstr [0xDA#8] (tImp id))

/-- `NOP` abx, opcode `$DC` (R313, `T_ABX_R`). -/
def execNopAbxDC (w : Word) (s : State) : Host.Outcome State Fault Refusal :=
  .next (s.runInstr [0xDC#8, lo w, hi w] (tAbsIdxR (·.x) aluNop))

/-- `NOP` imm, opcode `$E2` (R313, `T_IMM`). -/
def execNopImmE2 (b : Byte) (s : State) : Host.Outcome State Fault Refusal :=
  .next (s.runInstr [0xE2#8, b] (tImm aluNop))

/-- `NOP` zpx, opcode `$F4` (R313, `T_ZPX_R`). -/
def execNopZpxF4 (b : Byte) (s : State) : Host.Outcome State Fault Refusal :=
  .next (s.runInstr [0xF4#8, b] (tZpIdxR (·.x) aluNop))

/-- `NOP` imp, opcode `$FA` (R313, `T_IMP`). -/
def execNopImpFA (s : State) : Host.Outcome State Fault Refusal :=
  .next (s.runInstr [0xFA#8] (tImp id))

/-- `NOP` abx, opcode `$FC` (R313, `T_ABX_R`). -/
def execNopAbxFC (w : Word) (s : State) : Host.Outcome State Fault Refusal :=
  .next (s.runInstr [0xFC#8, lo w, hi w] (tAbsIdxR (·.x) aluNop))

/-- `JAM` imp, opcode `$02` (R314, `T_JAM`). -/
def execJam02 (s : State) : Host.Outcome State Fault Refusal :=
  .next (s.runInstr [0x02#8] (tJam))

/-- `JAM` imp, opcode `$12` (R314, `T_JAM`). -/
def execJam12 (s : State) : Host.Outcome State Fault Refusal :=
  .next (s.runInstr [0x12#8] (tJam))

/-- `JAM` imp, opcode `$22` (R314, `T_JAM`). -/
def execJam22 (s : State) : Host.Outcome State Fault Refusal :=
  .next (s.runInstr [0x22#8] (tJam))

/-- `JAM` imp, opcode `$32` (R314, `T_JAM`). -/
def execJam32 (s : State) : Host.Outcome State Fault Refusal :=
  .next (s.runInstr [0x32#8] (tJam))

/-- `JAM` imp, opcode `$42` (R314, `T_JAM`). -/
def execJam42 (s : State) : Host.Outcome State Fault Refusal :=
  .next (s.runInstr [0x42#8] (tJam))

/-- `JAM` imp, opcode `$52` (R314, `T_JAM`). -/
def execJam52 (s : State) : Host.Outcome State Fault Refusal :=
  .next (s.runInstr [0x52#8] (tJam))

/-- `JAM` imp, opcode `$62` (R314, `T_JAM`). -/
def execJam62 (s : State) : Host.Outcome State Fault Refusal :=
  .next (s.runInstr [0x62#8] (tJam))

/-- `JAM` imp, opcode `$72` (R314, `T_JAM`). -/
def execJam72 (s : State) : Host.Outcome State Fault Refusal :=
  .next (s.runInstr [0x72#8] (tJam))

/-- `JAM` imp, opcode `$92` (R314, `T_JAM`). -/
def execJam92 (s : State) : Host.Outcome State Fault Refusal :=
  .next (s.runInstr [0x92#8] (tJam))

/-- `JAM` imp, opcode `$B2` (R314, `T_JAM`). -/
def execJamB2 (s : State) : Host.Outcome State Fault Refusal :=
  .next (s.runInstr [0xB2#8] (tJam))

/-- `JAM` imp, opcode `$D2` (R314, `T_JAM`). -/
def execJamD2 (s : State) : Host.Outcome State Fault Refusal :=
  .next (s.runInstr [0xD2#8] (tJam))

/-- `JAM` imp, opcode `$F2` (R314, `T_JAM`). -/
def execJamF2 (s : State) : Host.Outcome State Fault Refusal :=
  .next (s.runInstr [0xF2#8] (tJam))

/-- `LAS` aby, opcode `$BB` (R315, `T_ABY_R`). -/
def execLasAby (w : Word) (s : State) : Host.Outcome State Fault Refusal :=
  .next (s.runInstr [0xBB#8, lo w, hi w] (tAbsIdxR (·.y) aluLas))

/-- `ANE` imm, opcode `$8B` (R316, `T_IMM`). -/
def execAneImm (b : Byte) (s : State) : Host.Outcome State Fault Refusal :=
  .next (s.runInstr [0x8B#8, b] (tImm (aluAne s.cfg.aneMagic)))

/-- `LXA` imm, opcode `$AB` (R317, `T_IMM`). -/
def execLxaImm (b : Byte) (s : State) : Host.Outcome State Fault Refusal :=
  .next (s.runInstr [0xAB#8, b] (tImm (aluLxa s.cfg.lxaMagic)))

/-- `SHA` izy, opcode `$93` (R318, `T_IZY_W`). -/
def execShaIzy (b : Byte) (s : State) : Host.Outcome State Fault Refusal :=
  .next (s.runInstr [0x93#8, b] (tIzyUnstable (fun c => c.a &&& c.x) id))

/-- `SHA` aby, opcode `$9F` (R318, `T_ABY_W`). -/
def execShaAby (w : Word) (s : State) : Host.Outcome State Fault Refusal :=
  .next (s.runInstr [0x9F#8, lo w, hi w] (tAbsIdxUnstable (·.y) (fun c => c.a &&& c.x) id))

/-- `SHX` aby, opcode `$9E` (R319, `T_ABY_W`). -/
def execShxAby (w : Word) (s : State) : Host.Outcome State Fault Refusal :=
  .next (s.runInstr [0x9E#8, lo w, hi w] (tAbsIdxUnstable (·.y) (·.x) id))

/-- `SHY` abx, opcode `$9C` (R320, `T_ABX_W`). -/
def execShyAbx (w : Word) (s : State) : Host.Outcome State Fault Refusal :=
  .next (s.runInstr [0x9C#8, lo w, hi w] (tAbsIdxUnstable (·.x) (·.y) id))

/-- `TAS` aby, opcode `$9B` (R321, `T_ABY_W`). -/
def execTasAby (w : Word) (s : State) : Host.Outcome State Fault Refusal :=
  .next (s.runInstr [0x9B#8, lo w, hi w] (tAbsIdxUnstable (·.y) (fun c => c.a &&& c.x) tasPost))

end Sys2Proof.Machine
end

