-- ==== Sys2Proof/Machine/Reset.lean ====
section
/-! DEFINITION. Reset and power-on (70_reset_and_hazards.md R540 to R542, 10_state.md R45, 60 R465, R499, R533): an atomic
state change that also leaves `JAMMED`. -/

namespace Sys2Proof.Machine

/-- A CIA after reset; the levels on its pins are held from outside (R465). -/
def Cia.doReset (c : Cia) : Cia :=
  { Cia.reset with extA := c.extA, extB := c.extB, cnt := c.cnt, cntPrev := c.cnt, sp := c.sp, flagPin := c.flagPin,
                   flagPrev := c.flagPin }

/-- The CPU table of 10 R45: hard reset takes `reset_regs`, soft reset keeps registers and flags but I, and lowers SP. -/
def Cpu.doReset (k : ResetKind) (r : ResetRegs) (pc : Word) (c : Cpu) : Cpu :=
  match k with
  | .hard => Cpu.resetAt r pc
  | .soft =>
    { Cpu.resetAt r pc with a := c.a, x := c.x, y := c.y, sp := c.sp - 3, p := { c.p with i := true },
                            lines := Lines.resetAt c.lines.cycle }

/-- The drive after reset (R533): memory, disk and head position keep their contents. The zone is 3, the model's choice
(log 40). -/
def Drive.doReset (k : ResetKind) (r : ResetRegs) (d : Drive) : Drive :=
  let vector := cat (romRead Config.driveRomImage d.rom 0xFFFD) (romRead Config.driveRomImage d.rom 0xFFFC)
  { d with cpu := d.cpu.doReset k r vector, via1 := Via.reset, via2 := Via.reset, zone := 3, ue7 := 0, ue3 := 0,
           shift := 0, byteCount := 0, readByte := 0, nextClock := 0, nextCarry := 0 }

/-- Steps 1 and 2 of R540: the devices, then the processor port. -/
def State.resetDevices (k : ResetKind) (s : State) : State :=
  { s with cia1 := s.cia1.doReset, cia2 := s.cia2.doReset, vic := Vic.reset,
           drive := s.drive.doReset k s.cfg.resetRegs, port := ProcPort.reset, elapsed := 0,
           inputs := { s.inputs with resetReq := none } }

/-- Reset (R540): devices, port, registers, then PC through the rebuilt tables. -/
def State.doReset (k : ResetKind) (s : State) : State :=
  let t := s.resetDevices k
  { t with cpu := t.cpu.doReset k t.cfg.resetRegs (t.spyPeek16 0xFFFC#16) }

/-- `hardReset()`. -/
def State.hardReset (s : State) : State := s.doReset .hard

/-- The RESET line of the real machine (R541). -/
def State.softReset (s : State) : State := s.doReset .soft

/-- Power-on (R542): refused when a ROM is missing; else the RAM contents are draws, given here, then a hard reset. -/
def State.powerOn (ram colorRam driveRam : Memory) (s : State) : Except PowerError State :=
  if s.cfg.romsPresent.complete then
    .ok ({ s with ram := ram, colorRam := colorRam, drive := { s.drive with ram := driveRam } } : State).hardReset
  else .error .romMissing

end Sys2Proof.Machine
end

