-- ==== Sys2Proof/Machine/Fetch.lean ====
section
/-! DEFINITION. The bytes the decoder is given: what the fetch cycle and the operand cycles after it will read (20_memory.md
R86, R96; log 2), found by running those cycles on a copy of the state. -/

namespace Sys2Proof.Machine

/-- The opcode and the two bytes after it, as the next three cycles read them. An instruction shorter than three bytes
does not depend on the rest. -/
def State.fetchBytes (s : State) : List Byte :=
  let s1 := s.runRow fetchRow none
  let s2 := s1.runRow opLoRow none
  [s.nextRead s.cpu.pc, s1.nextRead s1.cpu.pc, s2.nextRead s2.cpu.pc]

/-- Where the model puts the host's word: RAM in every banking mode (log 33). -/
def fetchWordAt : Word := 0x0800#16

end Sys2Proof.Machine
end

