-- ==== Sys2Proof/Machine/Step.lean ====
section
/-! DEFINITION. One step: a pending reset, or the next instruction, or the interrupt sequence that takes its place at the
fetch (40_datapath_cycles.md R142, R147; 60_exceptions.md R410, R411), or the rest of an instruction when the state stands
inside one. -/

namespace Sys2Proof.Machine

/-- The instruction at PC. -/
def State.stepFetched (s : State) : Host.Outcome State Fault Refusal :=
  match decode s.fetchBytes with
  | .ok (i, _) => exec i s
  | .error _ => .refused .undecodable

/-- A step at an instruction boundary: NMI first, then IRQ, else the instruction (R142, R411). -/
def State.stepBoundary (s : State) : Host.Outcome State Fault Refusal :=
  if s.cpu.doNmi then .next (s.interrupt .nmi)
  else if s.cpu.doIrq then .next (s.interrupt .irq)
  else s.stepFetched

/-- A step inside an instruction: its remaining rows (log 41). -/
def State.stepInside (s : State) : Host.Outcome State Fault Refusal :=
  match s.finishInstr 8 with
  | some t => .next t
  | none => .fault .noRow

/-- One step of the machine. -/
def step (s : State) : Host.Outcome State Fault Refusal :=
  match s.inputs.resetReq with
  | some k => .next (s.doReset k)
  | none =>
    match s.cpu.mip with
    | .jammed => .fault .jammed
    | .fetch => s.stepBoundary
    | .exec _ _ => s.stepInside
    | .int _ _ => s.stepInside

/-- `s` with the instruction stored in RAM where the next step fetches (log 33). -/
def State.withFetchWord (s : State) (nbits w : Nat) : State :=
  let b (k : Nat) : Byte := (wordBytes nbits w).getD k 0#8
  let at0 := fetchWordAt.toNat
  { s with ram := ((s.ram.write at0 (b 0)).write (at0 + 1) (b 1)).write (at0 + 2) (b 2),
           cpu := { s.cpu with pc := fetchWordAt, mip := .fetch, doNmi := false, doIrq := false },
           inputs := { s.inputs with resetReq := none } }

end Sys2Proof.Machine
end

