-- ==== Sys2Proof/Safety.lean ====
section
/-! DEFINITION. The terms claims are stated in: the programmer's registers, completion of an instruction with its frame,
the operand address and operand byte of each addressing mode, what a store changes, and the machine's invariant. -/

namespace Sys2Proof.Machine

/-! ## Completion -/

/-- The programmer's registers (10_state.md R20, R21, R24). -/
structure Regs where
  a : Byte
  x : Byte
  y : Byte
  sp : Byte
  p : Flags
deriving DecidableEq, Repr

/-- The registers of a CPU. -/
def Cpu.regs (c : Cpu) : Regs := { a := c.a, x := c.x, y := c.y, sp := c.sp, p := c.p }

/-- Flags with N and Z of a value: `setNZ(v)` (00_scope.md R8). -/
def nz (p : Flags) (v : Byte) : Flags := { p with n := v.getLsbD 7, z := decide (v = 0#8) }

/-- `t` is at the instruction boundary after the instruction that `s` was about to fetch: the registers are `r`, the
program counter is `pc`, `pc_frozen` is the instruction's address, and every other register an instruction could have
written is unchanged: the error state, the jam flag, the configuration, the ROM and the external inputs. -/
structure Completes (s t : State) (pc : Word) (r : Regs) : Prop where
  regs : t.cpu.regs = r
  pc : t.cpu.pc = pc
  boundary : t.cpu.mip = .fetch
  frozen : t.cpu.pcFrozen = s.cpu.pc
  errorState : t.cpu.errorState = s.cpu.errorState
  jamFlag : t.cpu.jamFlag = s.cpu.jamFlag
  cfg : t.cfg = s.cfg
  rom : t.rom = s.rom
  inputs : t.inputs = s.inputs

/-- No store: every byte of RAM and of colour RAM reads as before, and the processor port is unchanged. -/
structure MemoryKept (s t : State) : Prop where
  ram : ∀ k, t.ram.read k = s.ram.read k
  colorRam : ∀ k, t.colorRam.read k = s.colorRam.read k
  port : t.port = s.port

/-- One store of `v` at `a`, made in state `u`: RAM changes at `a` alone and only where the bus routes `a` to RAM; colour
RAM likewise, its low nibble; the port only where the port answers `a`. -/
structure Stores (s u t : State) (a : Word) (v : Byte) : Prop where
  other : ∀ k, k ≠ a.toNat → t.ram.read k = s.ram.read k
  here : u.ramAt a = true → t.ram.read a.toNat = v
  dropped : u.ramAt a = false → t.ram.read a.toNat = s.ram.read a.toNat
  color : ∀ k, t.colorRam.read k =
    if u.colorAt a = true ∧ k = a.toNat % 1024 then v &&& 0x0F#8 else s.colorRam.read k
  port : t.port = if u.portAt a then (u.portWrite a v).port else s.port

/-- The two stores of a read-modify-write at `a`: `old` in state `u`, then `new` in state `w` (20_memory.md R91). -/
structure StoresTwice (s u w t : State) (a : Word) (old new : Byte) : Prop where
  other : ∀ k, k ≠ a.toNat → t.ram.read k = s.ram.read k
  here : w.ramAt a = true → t.ram.read a.toNat = new
  first : u.ramAt a = true → w.ramAt a = false → t.ram.read a.toNat = old
  dropped : u.ramAt a = false → w.ramAt a = false → t.ram.read a.toNat = s.ram.read a.toNat
  colorOther : ∀ k, k ≠ a.toNat % 1024 → t.colorRam.read k = s.colorRam.read k
  colorHere : w.colorAt a = true → t.colorRam.read (a.toNat % 1024) = new &&& 0x0F#8
  colorDropped : u.colorAt a = false → w.colorAt a = false →
    t.colorRam.read (a.toNat % 1024) = s.colorRam.read (a.toNat % 1024)
  port : t.port = if w.portAt a then (w.portWrite a new).port else s.port
  firstPort : w.port = if u.portAt a then (u.portWrite a old).port else s.port

/-! ## Operands (30_encoding.md R113; the operand word is `w`, the operand byte `b`) -/

/-- The addressing modes with an effective address. -/
inductive EaMode where
  | zp (b : Byte)
  | zpx (b : Byte)
  | zpy (b : Byte)
  | abs (w : Word)
  | abx (w : Word)
  | aby (w : Word)
  | izx (b : Byte)
  | izy (b : Byte)

/-- The operand bytes, low byte first. -/
def EaMode.bytes : EaMode → List Byte
  | .zp b => [b]
  | .zpx b => [b]
  | .zpy b => [b]
  | .abs w => [lo w, hi w]
  | .abx w => [lo w, hi w]
  | .aby w => [lo w, hi w]
  | .izx b => [b]
  | .izy b => [b]

/-- The instruction's length in bytes. -/
def EaMode.length (m : EaMode) : Nat := 1 + m.bytes.length

/-- The pointer of `izx`: two page-zero reads at `b + X`, in their own cycles, wrapping inside page zero. -/
def pointerX (op b : Byte) (s : State) : Word :=
  cat ((s.runInstr [op, b] [opPtrRow, ptrIdxRow, ptrLoRow]).nextRead (zext16 (b + s.cpu.x + 1)))
    ((s.runInstr [op, b] [opPtrRow, ptrIdxRow]).nextRead (zext16 (b + s.cpu.x)))

/-- The pointer of `izy`: two page-zero reads at `b`. -/
def pointerY (op b : Byte) (s : State) : Word :=
  cat ((s.runInstr [op, b] [opPtrRow, ptrLoRow]).nextRead (zext16 (b + 1)))
    ((s.runInstr [op, b] [opPtrRow]).nextRead (zext16 b))

/-- The address before the index is added, for the modes that can cross a page. -/
def EaMode.base (op : Byte) (s : State) : EaMode → Word
  | .zp b => zext16 b
  | .zpx b => zext16 b
  | .zpy b => zext16 b
  | .abs w => w
  | .abx w => w
  | .aby w => w
  | .izx b => pointerX op b s
  | .izy b => pointerY op b s

/-- The effective address (R113): zero-page indexing wraps inside page zero, 16-bit indexing modulo 65536. -/
def EaMode.ea (op : Byte) (s : State) : EaMode → Word
  | .zp b => zext16 b
  | .zpx b => zext16 (b + s.cpu.x)
  | .zpy b => zext16 (b + s.cpu.y)
  | .abs w => w
  | .abx w => w + zext16 s.cpu.x
  | .aby w => w + zext16 s.cpu.y
  | .izx b => pointerX op b s
  | .izy b => pointerY op b s + zext16 s.cpu.y

/-- Whether indexing leaves the page of the base address. -/
def EaMode.crosses (op : Byte) (s : State) (m : EaMode) : Bool :=
  match m with
  | .zp _ | .zpx _ | .zpy _ | .abs _ | .izx _ => false
  | .abx _ | .aby _ | .izy _ => hi (m.ea op s) != hi (m.base op s)

/-- The dummy read of a page crossing in a read instruction (40_datapath_cycles.md R156). -/
def crossRow : Row := readRow Cpu.absAddr fun v c => { c with d := v, adh := c.adh + 1 }

/-- The cycles between the fetch and the operand's read in a class R instruction (40 R153 to R159). -/
def EaMode.readLead (op : Byte) (s : State) (m : EaMode) : List Row :=
  let cross := if m.crosses op s then [crossRow] else []
  match m with
  | .zp _ => [opLoRow]
  | .zpx _ => [opLoRow, zpIdxRow (·.x)]
  | .zpy _ => [opLoRow, zpIdxRow (·.y)]
  | .abs _ => [opLoRow, opHiRow]
  | .abx _ => [opLoRow, opHiIdxRow (·.x)] ++ cross
  | .aby _ => [opLoRow, opHiIdxRow (·.y)] ++ cross
  | .izx _ => [opPtrRow, ptrIdxRow, ptrLoRow, ptrHiRow]
  | .izy _ => [opPtrRow, ptrLoRow, ptrHiIdxRow] ++ cross

/-- The cycles between the fetch and the data cycles of a class W or M instruction (40 R153 to R160). -/
def EaMode.writeLead : EaMode → List Row
  | .zp _ => [opLoRow]
  | .zpx _ => [opLoRow, zpIdxRow (·.x)]
  | .zpy _ => [opLoRow, zpIdxRow (·.y)]
  | .abs _ => [opLoRow, opHiRow]
  | .abx _ => [opLoRow, opHiIdxRow (·.x), fixupRow (·.x)]
  | .aby _ => [opLoRow, opHiIdxRow (·.y), fixupRow (·.y)]
  | .izx _ => [opPtrRow, ptrIdxRow, ptrLoRow, ptrHiRow]
  | .izy _ => [opPtrRow, ptrLoRow, ptrHiIdxRow, fixupRow (·.y)]

/-- The operand of a class R instruction: what `MemRead(ea, 1)` gives in the operand's cycle. -/
def EaMode.operand (op : Byte) (s : State) (m : EaMode) : Byte :=
  (s.runInstr (op :: m.bytes) (m.readLead op s)).nextRead (m.ea op s)

/-- The state in which a class W instruction makes its store. -/
def EaMode.storeState (op : Byte) (s : State) (m : EaMode) : State :=
  (s.runInstr (op :: m.bytes) m.writeLead).devices

/-- The operand of a class M instruction. -/
def EaMode.modifyOperand (op : Byte) (s : State) (m : EaMode) : Byte :=
  (s.runInstr (op :: m.bytes) m.writeLead).nextRead (m.ea op s)

/-- The bus address the latches hold after those cycles, as the data rows of the mode's template use it. -/
def EaMode.addr : EaMode → Cpu → Word
  | .zp _ | .zpx _ | .zpy _ => Cpu.zpAddr
  | .abs _ | .abx _ | .aby _ | .izx _ | .izy _ => Cpu.absAddr

/-- The state in which a class M instruction makes its first store, of the old value. -/
def EaMode.modifyState1 (op : Byte) (s : State) (m : EaMode) : State :=
  (s.runInstr (op :: m.bytes) (m.writeLead ++ [readDataRow m.addr])).devices

/-- The state in which a class M instruction makes its second store, of the new value. -/
def EaMode.modifyState2 (op : Byte) (s : State) (m : EaMode) : State :=
  (s.runInstr (op :: m.bytes) (m.writeLead ++ [readDataRow m.addr, writeOldRow m.addr])).devices

/-! ## Shapes of result -/

/-- From every state the instruction completes, PC past its `len` bytes, with registers `f` of the old ones, nothing
stored. -/
def Computes (i : Instr) (len : Nat) (f : Regs → Regs) : Prop :=
  ∀ s, ∃ t, exec i s = .next t ∧ Completes s t (s.cpu.pc + BitVec.ofNat 16 len) (f s.cpu.regs) ∧ MemoryKept s t

/-- From every state the instruction completes with registers `f` of the old ones and of the operand that the bus gives
at the mode's effective address in the operand's cycle, nothing stored. -/
def Reads (i : Instr) (m : EaMode) (f : Regs → Byte → Regs) : Prop :=
  ∀ s, ∃ t, exec i s = .next t ∧
    Completes s t (s.cpu.pc + BitVec.ofNat 16 m.length) (f s.cpu.regs (m.operand i.opcode s)) ∧ MemoryKept s t

/-- From every state the instruction completes, the registers unchanged, and stores `f` of the registers at the mode's
effective address. -/
def Writes (i : Instr) (m : EaMode) (f : Regs → Byte) : Prop :=
  ∀ s, ∃ t, exec i s = .next t ∧ Completes s t (s.cpu.pc + BitVec.ofNat 16 m.length) s.cpu.regs ∧
    Stores s (m.storeState i.opcode s) t (m.ea i.opcode s) (f s.cpu.regs)

/-- From every state the instruction completes: the operand `v` at the mode's effective address is written back unchanged,
then `result` is written, and the registers become `regs`, both of the old registers and `v`. -/
def Modifies (i : Instr) (m : EaMode) (result : Regs → Byte → Byte) (regs : Regs → Byte → Regs) : Prop :=
  ∀ s, ∃ t, exec i s = .next t ∧
    Completes s t (s.cpu.pc + BitVec.ofNat 16 m.length) (regs s.cpu.regs (m.modifyOperand i.opcode s)) ∧
    StoresTwice s (m.modifyState1 i.opcode s) (m.modifyState2 i.opcode s) t (m.ea i.opcode s)
      (m.modifyOperand i.opcode s) (result s.cpu.regs (m.modifyOperand i.opcode s))

/-- `Reads` for each listed instruction with its operand mode, with one result. -/
def ReadForms (f : Regs → Byte → Regs) (l : List (Instr × EaMode)) : Prop := ∀ p ∈ l, Reads p.1 p.2 f

/-- `Writes` for each listed instruction with its operand mode. -/
def WriteForms (f : Regs → Byte) (l : List (Instr × EaMode)) : Prop := ∀ p ∈ l, Writes p.1 p.2 f

/-- `Modifies` for each listed instruction with its operand mode. -/
def ModifyForms (result : Regs → Byte → Byte) (regs : Regs → Byte → Regs) (l : List (Instr × EaMode)) : Prop :=
  ∀ p ∈ l, Modifies p.1 p.2 result regs

/-- From every state the branch completes: to the next instruction, or to the target `sext_16(b)` away from it if `cond`
holds (45_control_flow.md R276). -/
def BranchesIf (i : Instr) (b : Byte) (cond : Flags → Bool) : Prop :=
  ∀ s, ∃ t, exec i s = .next t ∧ MemoryKept s t ∧
    Completes s t (if cond s.cpu.p then s.cpu.pc + 2#16 + sext16 b else s.cpu.pc + 2#16) s.cpu.regs

/-- An unstable store (47_undocumented.md R318 to R321): of `reg & (H + 1)`, `H` the high byte of the base address, or of
any byte `v` if an RDY stall fell inside the instruction; on a page cross the high address byte is `v`. -/
def UnstableWrites (i : Instr) (m : EaMode) (reg : Regs → Byte) (post : Regs → Regs) : Prop :=
  ∀ s, ∃ t v, exec i s = .next t ∧ Completes s t (s.cpu.pc + BitVec.ofNat 16 m.length) (post s.cpu.regs) ∧
    ((m.storeState i.opcode s).cpu.stalled = false → v = reg s.cpu.regs &&& (hi (m.base i.opcode s) + 1)) ∧
    Stores s (m.storeState i.opcode s) t
      (if m.crosses i.opcode s then cat v (lo (m.ea i.opcode s)) else m.ea i.opcode s) v

/-! ## The stack (10_state.md R21) -/

/-- The byte that pushing `bs`, first to last, from stack pointer `sp` on leaves at address `k`, if it pushes one there. -/
def pushedByte (sp : Byte) : List Byte → Nat → Option Byte
  | [], _ => none
  | b :: bs, k =>
    match pushedByte (sp - 1) bs k with
    | some v => some v
    | none => if k = 256 + sp.toNat then some b else none

/-- Only the bytes `bs`, pushed in this order, are stored: page 1 is always RAM (20_memory.md R74, R76). -/
structure Pushed (s t : State) (bs : List Byte) : Prop where
  ram : ∀ k, t.ram.read k = (pushedByte s.cpu.sp bs k).getD (s.ram.read k)
  colorRam : ∀ k, t.colorRam.read k = s.colorRam.read k
  port : t.port = s.port

/-- The address of the stack cell `k` above the stack pointer's (10_state.md R21). -/
def stackCell (sp : Byte) (k : Byte) : Word := cat 0x01#8 (sp + k)

/-- The byte read at the stack cell `k` above the stack pointer's, after the rows `rows` of the instruction `op`. -/
def stackRead (op : Byte) (rows : List Row) (k : Byte) (s : State) : Byte :=
  (s.runInstr [op] rows).nextRead (stackCell s.cpu.sp k)

/-! ## Registers after loads, transfers and flag instructions -/

/-- Registers after loading `m` into A with N and Z. -/
def loadA (r : Regs) (m : Byte) : Regs := { r with a := m, p := nz r.p m }

/-- Registers after loading `m` into X with N and Z. -/
def loadX (r : Regs) (m : Byte) : Regs := { r with x := m, p := nz r.p m }

/-- Registers after loading `m` into Y with N and Z. -/
def loadY (r : Regs) (m : Byte) : Regs := { r with y := m, p := nz r.p m }

/-- Registers with other flags. -/
def withFlags (r : Regs) (p : Flags) : Regs := { r with p := p }

/-! ## Results of the arithmetic (43_arithmetic.md R230 to R234, 47_undocumented.md R310) -/

/-- Outside -128..127: signed overflow (43 R230, R243). -/
def signedOverflow (z : Int) : Bool := decide (z < -128) || decide (127 < z)

/-- Registers after `ADC` of `m` with `P.D = 0` (R230). -/
def addBinary (r : Regs) (m : Byte) : Regs :=
  let sum := r.a.toNat + m.toNat + r.p.c.toNat
  let v := BitVec.ofNat 8 sum
  { r with a := v, p := { nz r.p v with c := decide (0xFF < sum), v := signedOverflow (r.a.toInt + m.toInt + r.p.c.toNat) } }

/-- Registers after `ADC` of `m` with `P.D = 1` (R231): the low digit, the sum `t`, its correction `u`. -/
def addDecimal (r : Regs) (m : Byte) : Regs :=
  let low0 := r.a.toNat % 16 + m.toNat % 16 + r.p.c.toNat
  let low := if 0x0A ≤ low0 then (low0 + 6) % 16 + 16 else low0
  let t := r.a.toNat / 16 * 16 + m.toNat / 16 * 16 + low
  let u := if 0xA0 ≤ t then t + 0x60 else t
  let t7 := decide (t / 128 % 2 = 1)
  { r with a := BitVec.ofNat 8 u,
           p := { r.p with n := t7, v := (r.a.getLsbD 7 != t7) && (m.getLsbD 7 != t7), c := decide (0x100 ≤ u),
                           z := decide ((r.a.toNat + m.toNat + r.p.c.toNat) % 256 = 0) } }

/-- Registers after `ADC` of `m`. -/
def addResult (r : Regs) (m : Byte) : Regs := if r.p.d then addDecimal r m else addBinary r m

/-- The accumulator after `SBC` of `m` with `P.D = 1` (R233). -/
def subDecimal (r : Regs) (m : Byte) : Byte :=
  let low0 : Int := (r.a.toNat : Int) % 16 - (m.toNat : Int) % 16 + r.p.c.toNat - 1
  let low := if low0 < 0 then (low0 - 6) % 16 - 16 else low0
  let t : Int := (r.a.toNat : Int) / 16 * 16 - (m.toNat : Int) / 16 * 16 + low
  BitVec.ofInt 8 (if t < 0 then t - 0x60 else t)

/-- Registers after `SBC` of `m`: the flags are the binary difference's in both modes (R232). -/
def subResult (r : Regs) (m : Byte) : Regs :=
  let sum := r.a.toNat + (255 - m.toNat) + r.p.c.toNat
  let v := BitVec.ofNat 8 sum
  { r with a := if r.p.d then subDecimal r m else v,
           p := { nz r.p v with c := decide (0xFF < sum),
                                v := signedOverflow (r.a.toInt - m.toInt - 1 + r.p.c.toNat) } }

/-- Flags after comparing `x` with `m` (R234). -/
def compareFlags (p : Flags) (x m : Byte) : Flags :=
  { p with n := (x - m).getLsbD 7, z := decide (x = m), c := decide (m.toNat ≤ x.toNat) }

/-- The values the shifts give (44_logic_shift.md R254 to R257), `c` the carry before. -/
def aslValue (v : Byte) : Byte := BitVec.ofNat 8 (2 * v.toNat)
def lsrValue (v : Byte) : Byte := BitVec.ofNat 8 (v.toNat / 2)
def rolValue (c : Bool) (v : Byte) : Byte := BitVec.ofNat 8 (2 * v.toNat + c.toNat)
def rorValue (c : Bool) (v : Byte) : Byte := BitVec.ofNat 8 (v.toNat / 2 + 128 * c.toNat)

/-- Flags after a shift with result `v` and carry `c`. -/
def shiftFlags (p : Flags) (v : Byte) (c : Bool) : Flags := { nz p v with c := c }

/-- Registers after `ARR` of `m` (47 R310), from the rotated value `r0`. -/
def arrResult (r : Regs) (m : Byte) : Regs :=
  let t := r.a &&& m
  let r0 := rorValue r.p.c t
  if r.p.d then
    let tn := t.toNat
    let r1 := if tn % 16 + tn % 2 > 5 then r0.toNat / 16 * 16 + (r0.toNat + 6) % 16 else r0.toNat
    let high := tn / 16 * 16 + tn / 16 % 2 * 16 > 0x50
    { r with a := BitVec.ofNat 8 (if high then r1 % 16 + (r1 + 0x60) / 16 % 16 * 16 else r1),
             p := { r.p with n := r.p.c, z := decide (r0 = 0#8), v := t.getLsbD 6 != r0.getLsbD 6, c := decide high } }
  else
    { r with a := r0, p := { nz r.p r0 with c := r0.getLsbD 6, v := r0.getLsbD 6 != r0.getLsbD 5 } }

/-! ## Cycles (30_encoding.md R122, 40_datapath_cycles.md R170) -/

/-- The `cycles` column of spec/opcode_table.json, sixteen rows of sixteen, by opcode. -/
def cycleTable : List (List Nat) :=
  [[7, 6, 2, 8, 3, 3, 5, 5, 3, 2, 2, 2, 4, 4, 6, 6],
   [2, 5, 2, 8, 4, 4, 6, 6, 2, 4, 2, 7, 4, 4, 7, 7],
   [6, 6, 2, 8, 3, 3, 5, 5, 4, 2, 2, 2, 4, 4, 6, 6],
   [2, 5, 2, 8, 4, 4, 6, 6, 2, 4, 2, 7, 4, 4, 7, 7],
   [6, 6, 2, 8, 3, 3, 5, 5, 3, 2, 2, 2, 3, 4, 6, 6],
   [2, 5, 2, 8, 4, 4, 6, 6, 2, 4, 2, 7, 4, 4, 7, 7],
   [6, 6, 2, 8, 3, 3, 5, 5, 4, 2, 2, 2, 5, 4, 6, 6],
   [2, 5, 2, 8, 4, 4, 6, 6, 2, 4, 2, 7, 4, 4, 7, 7],
   [2, 6, 2, 6, 3, 3, 3, 3, 2, 2, 2, 2, 4, 4, 4, 4],
   [2, 6, 2, 6, 4, 4, 4, 4, 2, 5, 2, 5, 5, 5, 5, 5],
   [2, 6, 2, 6, 3, 3, 3, 3, 2, 2, 2, 2, 4, 4, 4, 4],
   [2, 5, 2, 5, 4, 4, 4, 4, 2, 4, 2, 4, 4, 4, 4, 4],
   [2, 6, 2, 8, 3, 3, 5, 5, 2, 2, 2, 2, 4, 4, 6, 6],
   [2, 5, 2, 8, 4, 4, 6, 6, 2, 4, 2, 7, 4, 4, 7, 7],
   [2, 6, 2, 8, 3, 3, 5, 5, 2, 2, 2, 2, 4, 4, 6, 6],
   [2, 5, 2, 8, 4, 4, 6, 6, 2, 4, 2, 7, 4, 4, 7, 7]]

/-- The base cycle count of an opcode. -/
def opcodeCycles (op : Byte) : Nat := (cycleTable.getD (op.toNat / 16) []).getD (op.toNat % 16) 0

/-- The extra cycles of a branch (45 R276): one if taken, one more if the target is in another page than the next
instruction. -/
def branchExtra (taken : Bool) (b : Byte) (s : State) : Nat :=
  let next := s.cpu.pc + 2#16
  if taken then if hi (next + sext16 b) = hi next then 1 else 2 else 0

/-- The extra cycle of a class R instruction whose index crosses a page (40 R156, R159). -/
def crossExtra (m : EaMode) (i : Instr) (s : State) : Nat := if m.crosses i.opcode s then 1 else 0

/-- The cycles an instruction takes beyond its base count in a given state: none but for branches and for the rows of the
table with `page_cross_penalty`. -/
def extraCycles (i : Instr) (s : State) : Nat :=
  match i with
  | .bpl b => branchExtra (!s.cpu.p.n) b s
  | .bmi b => branchExtra s.cpu.p.n b s
  | .bvc b => branchExtra (!s.cpu.p.v) b s
  | .bvs b => branchExtra s.cpu.p.v b s
  | .bcc b => branchExtra (!s.cpu.p.c) b s
  | .bcs b => branchExtra s.cpu.p.c b s
  | .bne b => branchExtra (!s.cpu.p.z) b s
  | .beq b => branchExtra s.cpu.p.z b s
  | .oraIzy b => crossExtra (.izy b) i s
  | .oraAby w => crossExtra (.aby w) i s
  | .nopAbx1C w => crossExtra (.abx w) i s
  | .oraAbx w => crossExtra (.abx w) i s
  | .andIzy b => crossExtra (.izy b) i s
  | .andAby w => crossExtra (.aby w) i s
  | .nopAbx3C w => crossExtra (.abx w) i s
  | .andAbx w => crossExtra (.abx w) i s
  | .eorIzy b => crossExtra (.izy b) i s
  | .eorAby w => crossExtra (.aby w) i s
  | .nopAbx5C w => crossExtra (.abx w) i s
  | .eorAbx w => crossExtra (.abx w) i s
  | .adcIzy b => crossExtra (.izy b) i s
  | .adcAby w => crossExtra (.aby w) i s
  | .nopAbx7C w => crossExtra (.abx w) i s
  | .adcAbx w => crossExtra (.abx w) i s
  | .ldaIzy b => crossExtra (.izy b) i s
  | .laxIzy b => crossExtra (.izy b) i s
  | .ldaAby w => crossExtra (.aby w) i s
  | .lasAby w => crossExtra (.aby w) i s
  | .ldyAbx w => crossExtra (.abx w) i s
  | .ldaAbx w => crossExtra (.abx w) i s
  | .ldxAby w => crossExtra (.aby w) i s
  | .laxAby w => crossExtra (.aby w) i s
  | .cmpIzy b => crossExtra (.izy b) i s
  | .cmpAby w => crossExtra (.aby w) i s
  | .nopAbxDC w => crossExtra (.abx w) i s
  | .cmpAbx w => crossExtra (.abx w) i s
  | .sbcIzy b => crossExtra (.izy b) i s
  | .sbcAby w => crossExtra (.aby w) i s
  | .nopAbxFC w => crossExtra (.abx w) i s
  | .sbcAbx w => crossExtra (.abx w) i s
  | _ => 0

/-- RDY is high in each of the next eight clock cycles: the VIC-II steals none of them. -/
def State.Unstalled (s : State) : Prop := ∀ m < 8, ((State.clock^[m]) s).devices.cpu.lines.rdy = true

/-! ## Reset (10_state.md R45, 70_reset_and_hazards.md R540) -/

/-- The CPU after a reset of kind `k`: the table of R45, with the program counter at `vector`. -/
structure CpuReset (k : ResetKind) (r : ResetRegs) (before after : Cpu) (vector : Word) : Prop where
  regs : after.regs =
    match k with
    | .hard => { a := r.a, x := r.x, y := r.y, sp := r.sp,
                 p := { n := false, v := false, d := r.d, i := true, z := false, c := false } }
    | .soft => { before.regs with sp := before.sp - 3, p := { before.p with i := true } }
  pc : after.pc = vector ∧ after.pcFrozen = vector
  latches : after.adl = 0 ∧ after.adh = 0 ∧ after.idl = 0 ∧ after.d = 0
  mip : after.mip = .fetch
  pending : after.doNmi = false ∧ after.doIrq = false
  nmiEdge : after.lines.nmiEdge = { cur := false, delayed := false }
  irqLevel : after.lines.irqLevel = { cur := false, delayed := false }
  lines : after.lines.irqLine = 0 ∧ after.lines.nmiLine = 0 ∧ after.lines.rdy = true
  cycle : after.lines.cycle = match k with | .hard => 0 | .soft => before.lines.cycle
  errorState : after.errorState = .ok ∧ after.jamFlag = false

/-! ## The processor port (10_state.md R35) -/

/-- `ext[k]`: what an input bit of the port sees. -/
def portPin (s : State) (k : Nat) : Bool :=
  match k with
  | 3 => decide (s.cpu.lines.cycle < s.port.discharge3) && !s.cfg.bit3Pulldown.contains (s.port.dir, s.port.data)
  | 4 => !s.inputs.datasetteKey
  | 5 => false
  | 6 => decide (s.cpu.lines.cycle < s.port.discharge6)
  | 7 => decide (s.cpu.lines.cycle < s.port.discharge7)
  | _ => true

/-- The discharge stamp of a capacitor bit after `new` is written to `$0000` in a state (R36). -/
def dischargeAfter (s : State) (delay k : Nat) (new : Byte) (old : BitVec 64) : BitVec 64 :=
  if s.port.dir.getLsbD k = true ∧ new.getLsbD k = false then
    if s.port.data.getLsbD k then s.cpu.lines.cycle + BitVec.ofNat 64 delay else 0
  else old

/-! ## The bank table (20_memory.md R74) -/

/-- The table of R74 for modes 0 to 15: the sources of pages `$1-$7`, `$8-$9`, `$A-$B`, `$C`, `$D`, `$E-$F`. Modes 24 to
31 are these of 8 to 15 with RAM at `$8-$9`; modes 16 to 23 are ultimax. -/
def bankTable : List (List PeekSource) :=
  [[.ram, .ram, .ram, .ram, .ram, .ram],
   [.ram, .ram, .ram, .ram, .ram, .ram],
   [.ram, .ram, .crtHi, .ram, .char, .kernal],
   [.ram, .crtLo, .crtHi, .ram, .char, .kernal],
   [.ram, .ram, .ram, .ram, .ram, .ram],
   [.ram, .ram, .ram, .ram, .io, .ram],
   [.ram, .ram, .crtHi, .ram, .io, .kernal],
   [.ram, .crtLo, .crtHi, .ram, .io, .kernal],
   [.ram, .ram, .ram, .ram, .ram, .ram],
   [.ram, .ram, .ram, .ram, .char, .ram],
   [.ram, .ram, .ram, .ram, .char, .kernal],
   [.ram, .crtLo, .basic, .ram, .char, .kernal],
   [.ram, .ram, .ram, .ram, .ram, .ram],
   [.ram, .ram, .ram, .ram, .io, .ram],
   [.ram, .ram, .ram, .ram, .io, .kernal],
   [.ram, .crtLo, .basic, .ram, .io, .kernal]]

/-- The column of a page `$1` to `$F` in that table. -/
def bankColumn (page : Nat) : Nat :=
  if page < 8 then 0 else if page < 10 then 1 else if page < 12 then 2 else if page = 12 then 3 else if page = 13 then 4 else 5

/-- The table's entry outside ultimax; page `$0` is RAM. -/
def bankEntry (b : BankLines) (page : Nat) : PeekSource :=
  let mode := 8 * b.game.toNat + 4 * b.charen.toNat + 2 * b.hiram.toNat + b.loram.toNat
  if page = 0 then .ram
  else if b.exrom && bankColumn page = 1 then .ram
  else (bankTable.getD mode []).getD (bankColumn page) .ram

/-! ## The machine's invariants -/

/-- A memory in canonical form with every address below `n`. -/
abbrev Memory.good (n : Nat) (m : Memory) : Prop := m.wf = true ∧ m.below n = true

/-- RAM and colour RAM are canonical and inside their address spaces, and colour RAM holds nibbles (10_state.md R39). -/
structure State.MemoriesInv (s : State) : Prop where
  ram : s.ram.good 65536
  colorRam : s.colorRam.good 1024
  nibbles : ∀ k, (s.colorRam.read k).toNat < 16

/-- The VIC-II's memories are canonical, the copies under way are of its 47 registers, its raster position is on the screen
of the configured model (60 R470), and there are eight sprites. -/
structure State.VideoInv (s : State) : Prop where
  current : s.vic.cur.good 47
  delayed : s.vic.del.good 47
  copies : ∀ c ∈ s.vic.copies, c.reg < 47
  matrix : s.vic.matrix.good 64
  colors : s.vic.colors.good 64
  line : s.vic.line < s.cfg.vicModel.linesPerFrame
  cycle : 1 ≤ s.vic.cycle ∧ s.vic.cycle ≤ s.cfg.vicModel.cyclesPerLine
  sprites : s.vic.sprites.length = 8

/-- The drive's memories are canonical, each of the 84 halftracks holds as many bits as its counter says and at most
7928 * 8 (60 R526), the head is on one of them and inside its track (10_state.md R43), and the drive CPU's IRQ detector
follows its line (10 R29). -/
structure State.DriveInv (s : State) : Prop where
  ram : s.drive.ram.good 2048
  via1 : s.drive.via1.regs.good 16
  via2 : s.drive.via2.regs.good 16
  tracks : s.drive.disk.tracks.length = 84
  trackBits : ∀ t ∈ s.drive.disk.tracks, t.bits.length = t.length ∧ t.length ≤ 7928 * 8
  halftrack : 1 ≤ s.drive.halftrack ∧ s.drive.halftrack ≤ 84
  offset : s.drive.offset = 0 ∨ s.drive.offset < s.drive.track.length
  irqLevel : s.drive.cpu.lines.irqLevel.cur = decide (s.drive.cpu.lines.irqLine ≠ 0#8)

/-- The IRQ detector follows the IRQ line (10_state.md R29), the CPU stands at an instruction boundary (40 R147), and it
is jammed exactly when the jam flag is up (60 R400). -/
structure State.CpuInv (s : State) : Prop where
  irqLevel : s.cpu.lines.irqLevel.cur = decide (s.cpu.lines.irqLine ≠ 0#8)
  boundary : s.cpu.atBoundary = true
  jam : s.cpu.mip = .jammed ↔ s.cpu.jamFlag = true

end Sys2Proof.Machine
end

