-- ==== Sys2Proof/Certificates/Slice0/Obligations.lean ====
section
/-! DEFINITION. The statements for the provers. Each docstring names the rules of spec/ it formalises. A statement about
every state quantifies over the configuration too (it is a field of the state), and over every free value. -/

open Sys2Proof Sys2Proof.Machine

/-! ## Encoding (30_encoding.md) -/

/-- R110, R111, R115: the bytes of every instruction decode to it again, whatever bytes follow. -/
def Obligations.DecodeInvertsEncode : Prop :=
  ∀ (i : Instr) (rest : List Byte), decode (encode i ++ rest) = .ok (i, rest)

/-- R110, R112: bytes that decode are the instruction's own bytes and the rest: each word has one meaning. -/
def Obligations.EncodeInvertsDecode : Prop :=
  ∀ (bytes rest : List Byte) (i : Instr), decode bytes = .ok (i, rest) → encode i ++ rest = bytes

/-- R118, R120: every opcode byte begins an instruction, whose length it alone fixes. -/
def Obligations.EveryOpcodeDecodes : Prop :=
  ∀ op b1 b2 : Byte, ∃ i rest, decode [op, b1, b2] = .ok (i, rest) ∧ i.opcode = op ∧
    (encode i).length = opcodeLength op ∧ rest.length + opcodeLength op = 3

/-- R115: words written out from the opcode map, one or two of each family, low operand byte first (R86). -/
def Obligations.SampleWords : Prop :=
  decode [0xA9, 0x80] = .ok (.ldaImm 0x80, []) ∧
  decode [0x8D, 0x34, 0x12] = .ok (.staAbs 0x1234, []) ∧
  decode [0xAA] = .ok (.tax, []) ∧
  decode [0x48] = .ok (.pha, []) ∧
  decode [0x71, 0x20] = .ok (.adcIzy 0x20, []) ∧
  decode [0xDE, 0x00, 0xC0] = .ok (.decAbx 0xC000, []) ∧
  decode [0x41, 0x33] = .ok (.eorIzx 0x33, []) ∧
  decode [0x2A] = .ok (.rolA, []) ∧
  decode [0x6C, 0xFF, 0x02] = .ok (.jmpInd 0x02FF, []) ∧
  decode [0xD0, 0xFD] = .ok (.bne 0xFD, []) ∧
  decode [0x78] = .ok (.sei, []) ∧
  decode [0x07, 0x10] = .ok (.sloZp 0x10, []) ∧
  decode [0xB7, 0x44] = .ok (.laxZpy 0x44, []) ∧
  decode [0x02] = .ok (.jam02, [])

/-! ## Reset (70_reset_and_hazards.md section 1, 10_state.md section 10) -/

/-- R45, R540, R541, R542: what reset leaves of the CPU, the port and memory, hard and soft, and that power-on is refused
exactly when a ROM is missing (that the drive's ROM counts among them is the model's choice, log 4). The vector is read in the state
after the port's reset. D after a hard reset is a parameter (R45: "a proof model should take it as a draw"; log 5). -/
def Obligations.ResetTable : Prop :=
  (∀ (k : ResetKind) (s : State), let t := s.doReset k
    CpuReset k s.cfg.resetRegs s.cpu t.cpu (t.spyPeek16 0xFFFC) ∧
    t.port.dir = 0 ∧ t.port.data = 0 ∧ t.port.discharge3 = 0 ∧ t.port.discharge6 = 0 ∧ t.port.discharge7 = 0 ∧
    t.bankLines.loram = true ∧ t.bankLines.hiram = true ∧ t.bankLines.charen = true ∧
    t.ram = s.ram ∧ t.colorRam = s.colorRam ∧ t.rom = s.rom ∧ t.cart = s.cart) ∧
  (∀ (ram colorRam driveRam : Memory) (s : State),
    (s.cfg.romsPresent.complete = true → ∃ t, s.powerOn ram colorRam driveRam = .ok t ∧
      CpuReset .hard s.cfg.resetRegs s.cpu t.cpu (t.spyPeek16 0xFFFC) ∧ t.ram = ram ∧ t.colorRam = colorRam ∧
      t.drive.ram = driveRam) ∧
    (s.cfg.romsPresent.complete = false → s.powerOn ram colorRam driveRam = .error .romMissing))

/-- R465, R499, R533: what a reset of either kind leaves of the CIAs, the VIC-II and the drive. -/
def Obligations.ResetDevices : Prop :=
  ∀ (k : ResetKind) (s : State), let t := s.doReset k
    (∀ c ∈ [t.cia1, t.cia2], c.counterA = 0xFFFF ∧ c.counterB = 0xFFFF ∧ c.latchA = 0xFFFF ∧ c.latchB = 0xFFFF ∧
      c.cra = 0 ∧ c.crb = 0 ∧ c.icr = 0 ∧ c.imr = 0 ∧ c.icrAck = 0 ∧ c.delay = 0 ∧ c.feed = 0 ∧ c.pra = 0 ∧ c.prb = 0 ∧
      c.ddra = 0 ∧ c.ddrb = 0 ∧ c.sdr = 0 ∧ c.irqOut = false ∧
      c.tod.time = { hours := 1, minutes := 0, seconds := 0, tenths := 0 } ∧
      c.tod.alarm = { hours := 0, minutes := 0, seconds := 0, tenths := 0 } ∧
      c.tod.stopped = true ∧ ∀ v, (c.write s.cfg 8 v).tod.stopped = false) ∧
    (s.cia2.extA = 0xFF → t.selectedBank = 0) ∧
    (∀ r < 47, t.vic.cur.read r = 0 ∧ t.vic.del.read r = 0) ∧
    t.vic.irr = 0 ∧ t.vic.irqOut = false ∧ t.vic.line = 0 ∧ t.vic.cycle = 1 ∧ t.vic.badLine = false ∧
    t.vic.denLatch = false ∧ t.vic.display = false ∧ t.vic.vc = 0 ∧ t.vic.vmli = 0 ∧ t.vic.rc = 0 ∧
    (∀ p ∈ t.vic.sprites, p.dma = false) ∧ t.vic.mm = 0 ∧ t.vic.md = 0 ∧ t.vic.delay = 0 ∧ t.vic.copies = [] ∧
    t.cpu.lines.rdy = true ∧
    CpuReset k s.cfg.resetRegs s.drive.cpu t.drive.cpu
      (cat (romRead Config.driveRomImage s.drive.rom 0xFFFD) (romRead Config.driveRomImage s.drive.rom 0xFFFC)) ∧
    (∀ r, t.drive.via1.regs.read r = 0 ∧ t.drive.via2.regs.read r = 0) ∧
    t.drive.ue7 = 0 ∧ t.drive.ue3 = 0 ∧ t.drive.shift = 0 ∧ t.drive.byteCount = 0 ∧ t.drive.nextClock = 0 ∧
    t.drive.nextCarry = 0 ∧ t.drive.halftrack = s.drive.halftrack ∧ t.drive.offset = s.drive.offset ∧
    t.drive.disk = s.drive.disk ∧ t.drive.ram = s.drive.ram ∧
    ∀ ram colorRam driveRam u, s.powerOn ram colorRam driveRam = .ok u → u.drive.ram = driveRam

/-- P2 (R541): a second hard reset changes nothing. -/
def Obligations.HardResetTwice : Prop := ∀ s : State, s.hardReset.hardReset = s.hardReset

/-! ## The step (40_datapath_cycles.md R140 to R149, R181; 60_exceptions.md R410, R411) -/

/-- R411 (a), (b), R142: reset overrides everything and leaves the jam; at a fetch NMI goes before IRQ. -/
def Obligations.StepPriority : Prop :=
  (∀ (s : State) (k : ResetKind), s.inputs.resetReq = some k → ∃ t, step s = .next t ∧ t = s.doReset k ∧
    t.cpu.mip = .fetch ∧ t.inputs.resetReq = none) ∧
  (∀ s : State, s.inputs.resetReq = none → s.cpu.mip = .fetch → s.cpu.doNmi = true →
    step s = .next (s.interrupt .nmi)) ∧
  (∀ s : State, s.inputs.resetReq = none → s.cpu.mip = .fetch → s.cpu.doNmi = false → s.cpu.doIrq = true →
    step s = .next (s.interrupt .irq))

/-- R142, R181: where the bytes that the next cycles fetch decode to `i`, and no reset or interrupt is due, a step is
`exec` of `i`. -/
def Obligations.StepRunsDecoded : Prop :=
  ∀ (s : State) (i : Instr) (rest : List Byte), s.inputs.resetReq = none → s.cpu.mip = .fetch → s.cpu.doNmi = false →
    s.cpu.doIrq = false → decode s.fetchBytes = .ok (i, rest) → step s = exec i s

/-- R96, R70, R86: a program in RAM runs: where the three bytes at PC answer from RAM and decode to `i`, a step is `exec`
of `i`, whatever stalls fall on the fetch. The banking holds still during the fetch unless the VIC-II fetches, in ultimax,
from a cartridge that switches its lines at its own accesses (R79). -/
def Obligations.ProgramInRam : Prop :=
  ∀ (s : State) (i : Instr) (rest : List Byte), s.inputs.resetReq = none → s.cpu.mip = .fetch → s.cpu.doNmi = false →
    s.cpu.doIrq = false → (s.cart.switching = false ∨ s.bankLines.ultimax = false) →
    (∀ k < 3, s.portAt (s.cpu.pc + BitVec.ofNat 16 k) = false ∧ s.peekSource (s.cpu.pc + BitVec.ofNat 16 k) = .ram) →
    decode [s.ram.read s.cpu.pc.toNat, s.ram.read (s.cpu.pc + 1).toNat, s.ram.read (s.cpu.pc + 2).toNat] = .ok (i, rest) →
    step s = exec i s

/-- R140, R141, R147, R181: with no stall a step is one to eight clock cycles of the micro-cycle engine, which selects each
row by `mip` from the microcode table: the meanings of the instructions and the table agree, interrupts included. -/
def Obligations.StepIsClocks : Prop :=
  ∀ s t : State, s.inputs.resetReq = none → s.Unstalled → step s = .next t →
    ∃ n, 1 ≤ n ∧ n ≤ 8 ∧ t = State.clock^[n] s

/-- R402, R118, R149, R400: at an instruction boundary nothing but a jam stops the machine; a jammed CPU has no step until
reset. -/
def Obligations.OnlyJamStops : Prop :=
  ∀ s : State, s.CpuInv →
    (s.inputs.resetReq = none → s.cpu.jamFlag = true → step s = .fault .jammed) ∧
    (s.inputs.resetReq ≠ none ∨ s.cpu.jamFlag = false → ∃ t, step s = .next t)

/-! ## Invariants -/

/-- The invariants of the four statements below hold after power-on. -/
def Obligations.InvariantsAtReset : Prop :=
  State.reset.MemoriesInv ∧ State.reset.VideoInv ∧ State.reset.DriveInv ∧ State.reset.CpuInv

/-- R39: every step keeps RAM and colour RAM canonical and inside their address spaces, and colour RAM nibbles. -/
def Obligations.StepKeepsMemories : Prop := ∀ s t : State, s.MemoriesInv → step s = .next t → t.MemoriesInv

/-- R470, R42: every step keeps the raster position on the screen and the VIC-II's memories canonical. -/
def Obligations.StepKeepsVideo : Prop := ∀ s t : State, s.VideoInv → step s = .next t → t.VideoInv

/-- R43, R29: every step keeps the head on the disk, the drive's memories canonical and its IRQ detector in step with its
line. -/
def Obligations.StepKeepsDrive : Prop := ∀ s t : State, s.DriveInv → step s = .next t → t.DriveInv

/-- R29, R147, R400: every step ends at an instruction boundary with the IRQ detector following the line, jammed exactly
when the jam flag is up. -/
def Obligations.StepKeepsCpu : Prop := ∀ s t : State, s.CpuInv → step s = .next t → t.CpuInv

/-! ## One clock cycle (40 R140, R144, R145) -/

/-- R145, P1: every clock cycle of a CPU that has a step, stalled or not, copies the detectors into their delay buffers and
advances the cycle counter by exactly 1. R405: a release clears the source's bit; the IRQ detector then tells whether
another source remains, a latched NMI edge stays (R405's own general knowledge). -/
def Obligations.HousekeepingEveryCycle : Prop :=
  (∀ (s : State) (r : Row), s.cpu.currentRow s.cfg = some r → let l := s.clock.cpu.lines
    l.nmiEdge.delayed = l.nmiEdge.cur ∧ l.irqLevel.delayed = l.irqLevel.cur ∧ l.cycle = s.cpu.lines.cycle + 1) ∧
  (∀ (l : Lines) (src : Source),
    (l.releaseIrq src).irqLine = l.irqLine &&& ~~~src.bit ∧
    (l.releaseIrq src).irqLevel.cur = decide ((l.releaseIrq src).irqLine ≠ 0) ∧
    l.releaseNmi src = { l with nmiLine := l.nmiLine &&& ~~~src.bit })

/-- R144: RDY low on a read row: no bus access, no register, latch or pending bit changes, `mip` stays; memory, the port and
every device are as the devices' own part of the cycle left them. A write row runs whatever RDY is: its byte goes on the
bus, and the whole CPU, memory and every device are as after the row. What the end of the cycle adds, the drive's events,
the raster's advance and the TOD tick, is R440, R441 and R444; that it comes after the CPU is the model's choice for the
raster (log 17). -/
def Obligations.RdyStallsReadsOnly : Prop :=
  (∀ (s : State) (addr : Cpu → Word) (k : Byte → Cpu → Cpu), s.cpu.currentRow s.cfg = some (.read addr k) →
    s.devices.cpu.lines.rdy = false → let t := s.clock
    t.cpu.regs = s.cpu.regs ∧ t.cpu.pc = s.cpu.pc ∧ t.cpu.pcFrozen = s.cpu.pcFrozen ∧ t.cpu.adl = s.cpu.adl ∧
    t.cpu.adh = s.cpu.adh ∧ t.cpu.idl = s.cpu.idl ∧ t.cpu.d = s.cpu.d ∧ t.cpu.mip = s.cpu.mip ∧
    t.cpu.doNmi = s.cpu.doNmi ∧ t.cpu.doIrq = s.cpu.doIrq ∧ t.cpu.errorState = s.cpu.errorState ∧
    t.cpu.jamFlag = s.cpu.jamFlag ∧ t.ram = s.ram ∧ t.colorRam = s.colorRam ∧ t.port = s.port ∧
    t.cart = s.devices.cart ∧ (∃ tick, t.cia1 = { s.devices.cia1 with todTick := tick }) ∧
    (∃ tick, t.cia2 = { s.devices.cia2 with todTick := tick }) ∧ t.vic = s.devices.vic.advance s.cfg.vicModel ∧
    t.drive = s.devices.drive.run s.cfg s.devices.iecPulls (s.elapsed + s.cfg.cycleDuration)) ∧
  (∀ (s : State) (addr : Cpu → Word) (val : Cpu → Byte) (k : Cpu → Cpu),
    s.cpu.currentRow s.cfg = some (.write addr val k) → let t := s.clock
    let u := s.devices.busWrite (addr s.devices.cpu) (val s.devices.cpu)
    t.cpu = { k u.cpu.nextRow with lines := (k u.cpu.nextRow).lines.housekeep } ∧
    t.ram = u.ram ∧ t.colorRam = u.colorRam ∧ t.port = u.port ∧ t.cart = u.cart ∧
    (∃ tick, t.cia1 = { u.cia1 with todTick := tick }) ∧ (∃ tick, t.cia2 = { u.cia2 with todTick := tick }) ∧
    t.vic = u.vic.advance s.cfg.vicModel ∧ t.drive = u.drive.run s.cfg u.iecPulls (s.elapsed + s.cfg.cycleDuration))

/-! ## Interrupts (60_exceptions.md section 2, 45_control_flow.md R274, R275) -/

/-- R404, R409: pulling a line, where an NMI makes an edge only if no source held the line; and the poll. -/
def Obligations.InterruptLines : Prop :=
  (∀ (l : Lines) (src : Source),
    l.pullIrq src = { l with irqLine := l.irqLine ||| src.bit, irqLevel := { l.irqLevel with cur := true } } ∧
    l.pullNmi src = { l with nmiLine := l.nmiLine ||| src.bit,
                             nmiEdge := { l.nmiEdge with cur := l.nmiEdge.cur || decide (l.nmiLine = 0) } }) ∧
  (∀ c : Cpu,
    c.poll = { c with doNmi := c.lines.nmiEdge.delayed, doIrq := c.lines.irqLevel.delayed && !c.p.i } ∧
    c.pollOr = { c with doNmi := c.doNmi || c.lines.nmiEdge.delayed,
                        doIrq := c.doIrq || (c.lines.irqLevel.delayed && !c.p.i) })

/-- R412, R413, R415: the interrupt sequence, taken at a fetch with `doNmi` or `doIrq` set: it pushes the address of the
instruction that was not executed, then P with B = 0, sets I, leaves D, and goes to the address its vector holds on the bus
in cycles 6 and 7; it polls nothing; with no stall it takes 7 cycles. -/
def Obligations.InterruptEntry : Prop :=
  ∀ (s : State) (k : IntKind), s.inputs.resetReq = none → s.cpu.mip = .fetch →
    (match k with | .nmi => s.cpu.doNmi = true | .irq => s.cpu.doNmi = false ∧ s.cpu.doIrq = true) →
    let rows := intFetchRow k :: intRows k
    ∃ t, step s = .next t ∧
      Completes s t (cat ((s.runRows [] (rows.take 6)).nextRead (k.vector + 1)) ((s.runRows [] (rows.take 5)).nextRead k.vector))
        { s.cpu.regs with sp := s.cpu.sp - 3, p := { s.cpu.p with i := true } } ∧
      Pushed s t [hi s.cpu.pc, lo s.cpu.pc, s.cpu.p.push false] ∧ t.cpu.doNmi = false ∧ t.cpu.doIrq = false ∧
      (s.Unstalled → t.cpu.lines.cycle = s.cpu.lines.cycle + 7)

/-- R275, R175: `BRK` pushes the address two past its own and P with B = 1, sets I, leaves D, and goes through the IRQ
vector; it polls nothing. -/
def Obligations.BrkEntry : Prop :=
  ∀ s : State, ∃ t, exec .brk s = .next t ∧
    Completes s t (cat ((s.runInstr [0x00] (brkRows.take 5)).nextRead 0xFFFF) ((s.runInstr [0x00] (brkRows.take 4)).nextRead 0xFFFE))
      { s.cpu.regs with sp := s.cpu.sp - 3, p := { s.cpu.p with i := true } } ∧
    Pushed s t [hi (s.cpu.pc + 2), lo (s.cpu.pc + 2), s.cpu.p.push true] ∧
    t.cpu.doNmi = s.cpu.doNmi ∧ t.cpu.doIrq = s.cpu.doIrq

/-- R274, R174, R414: `RTI` pulls the six flags, then PCL and PCH, and continues there; nothing else. -/
def Obligations.RtiReturns : Prop :=
  ∀ s : State, ∃ t, exec .rti s = .next t ∧ MemoryKept s t ∧
    Completes s t (cat (stackRead 0x40 (rtiRows.take 4) 3 s) (stackRead 0x40 (rtiRows.take 3) 2 s))
      { s.cpu.regs with sp := s.cpu.sp + 3, p := Flags.pull (stackRead 0x40 (rtiRows.take 2) 1 s) }

/-- R414, R410: an `RTI` right after an interrupt's entry restores every register and the flags, and re-fetches the
interrupted instruction; after a `BRK` it continues past the padding byte. -/
def Obligations.RtiUndoesInterrupt : Prop :=
  (∀ (s t : State), s.inputs.resetReq = none → s.cpu.mip = .fetch → (s.cpu.doNmi = true ∨ s.cpu.doIrq = true) →
    step s = .next t → ∃ u, exec .rti t = .next u ∧ u.cpu.pc = s.cpu.pc ∧ u.cpu.regs = s.cpu.regs) ∧
  (∀ (s t : State), exec .brk s = .next t →
    ∃ u, exec .rti t = .next u ∧ u.cpu.pc = s.cpu.pc + 2 ∧ u.cpu.regs = s.cpu.regs)

/-- R551, R292, R293, R223, R274, R408: the poll of `CLI`, `SEI` and `PLP` sees I as it was before the instruction, that of
`RTI` the restored I. The line seen is the detector's in the state in which the poll's row gets the bus. -/
def Obligations.IFlagLatency : Prop :=
  ∀ s : State,
    (∃ t, exec .cli s = .next t ∧ t.cpu.p.i = false ∧
      t.cpu.doIrq = ((s.runInstr [0x58] []).readSlot.cpu.lines.irqLevel.delayed && !s.cpu.p.i)) ∧
    (∃ t, exec .sei s = .next t ∧ t.cpu.p.i = true ∧
      t.cpu.doIrq = ((s.runInstr [0x78] []).readSlot.cpu.lines.irqLevel.delayed && !s.cpu.p.i)) ∧
    (∃ t, exec .plp s = .next t ∧ t.cpu.doIrq =
      ((s.runInstr [0x28] [dummyRow (·.pc) id, popDummyRow]).readSlot.cpu.lines.irqLevel.delayed && !s.cpu.p.i)) ∧
    (∃ t, exec .rti s = .next t ∧
      t.cpu.doIrq = ((s.runInstr [0x40] (rtiRows.take 4)).readSlot.cpu.lines.irqLevel.delayed && !t.cpu.p.i))

/-! ## All instructions -/

/-- R25, R21: only the listed instructions change D, I, V, or the stack pointer. -/
def Obligations.FlagAndStackWriters : Prop :=
  ∀ (i : Instr) (s t : State), exec i s = .next t →
    (i.opcode ∉ ([0xD8, 0xF8, 0x28, 0x40] : List Byte) → t.cpu.p.d = s.cpu.p.d) ∧
    (i.opcode ∉ ([0x58, 0x78, 0x28, 0x40, 0x00] : List Byte) → t.cpu.p.i = s.cpu.p.i) ∧
    (i.opcode ∉ ([0x69, 0x65, 0x75, 0x6D, 0x7D, 0x79, 0x61, 0x71, 0xE9, 0xE5, 0xF5, 0xED, 0xFD, 0xF9, 0xE1, 0xF1, 0x24,
      0x2C, 0xB8, 0x28, 0x40, 0x67, 0x77, 0x6F, 0x7F, 0x7B, 0x63, 0x73, 0xE7, 0xF7, 0xEF, 0xFF, 0xFB, 0xE3, 0xF3, 0x6B,
      0xEB] : List Byte) → t.cpu.p.v = s.cpu.p.v) ∧
    (i.opcode ∉ ([0x9A, 0x48, 0x08, 0x68, 0x28, 0x20, 0x60, 0x40, 0x00, 0x9B, 0xBB] : List Byte) → t.cpu.sp = s.cpu.sp)

/-- R122, R170, R156, R159, R570: with no stall an instruction takes the cycles of the opcode table, one more on a page
crossing where the table says so, and a branch one or two more when taken. -/
def Obligations.InstructionCycles : Prop :=
  ∀ (s : State) (i : Instr) (rest : List Byte), s.inputs.resetReq = none → s.cpu.mip = .fetch → s.cpu.doNmi = false →
    s.cpu.doIrq = false → decode s.fetchBytes = .ok (i, rest) → s.Unstalled →
    ∃ t, step s = .next t ∧
      t.cpu.lines.cycle = s.cpu.lines.cycle + BitVec.ofNat 64 (opcodeCycles i.opcode + extraCycles i s)

/-! ## Loads, stores, transfers, stack (41_load_store_transfer.md, 42_stack.md, 47 R304, R305, R315) -/

/-- R200 to R202, R305, R315: loads put the operand in their registers and set N and Z; nothing is stored. -/
def Obligations.Loads : Prop :=
  ∀ (b : Byte) (w : Word),
  ReadForms loadA
    [(.ldaIzx b, .izx b), (.ldaZp b, .zp b), (.ldaAbs w, .abs w), (.ldaIzy b, .izy b), (.ldaZpx b, .zpx b),
     (.ldaAby w, .aby w), (.ldaAbx w, .abx w)] ∧
  Computes (.ldaImm b) 2 (loadA · b) ∧
  ReadForms loadX
    [(.ldxZp b, .zp b), (.ldxAbs w, .abs w), (.ldxZpy b, .zpy b), (.ldxAby w, .aby w)] ∧
  Computes (.ldxImm b) 2 (loadX · b) ∧
  ReadForms loadY
    [(.ldyZp b, .zp b), (.ldyAbs w, .abs w), (.ldyZpx b, .zpx b), (.ldyAbx w, .abx w)] ∧
  Computes (.ldyImm b) 2 (loadY · b) ∧
  ReadForms (fun r m => { loadA r m with x := m })
    [(.laxIzx b, .izx b), (.laxZp b, .zp b), (.laxAbs w, .abs w), (.laxIzy b, .izy b), (.laxZpy b, .zpy b),
     (.laxAby w, .aby w)] ∧
  ReadForms (fun r m => { loadA r (m &&& r.sp) with x := m &&& r.sp, sp := m &&& r.sp })
    [(.lasAby w, .aby w)]

/-- R203 to R205, R304: stores put A, X, Y or A AND X at the effective address; no register or flag changes. -/
def Obligations.Stores : Prop :=
  ∀ (b : Byte) (w : Word),
  WriteForms (·.a)
    [(.staIzx b, .izx b), (.staZp b, .zp b), (.staAbs w, .abs w), (.staIzy b, .izy b), (.staZpx b, .zpx b),
     (.staAby w, .aby w), (.staAbx w, .abx w)] ∧
  WriteForms (·.x)
    [(.stxZp b, .zp b), (.stxAbs w, .abs w), (.stxZpy b, .zpy b)] ∧
  WriteForms (·.y)
    [(.styZp b, .zp b), (.styAbs w, .abs w), (.styZpx b, .zpx b)] ∧
  WriteForms (fun r => r.a &&& r.x)
    [(.saxIzx b, .izx b), (.saxZp b, .zp b), (.saxAbs w, .abs w), (.saxZpy b, .zpy b)]

/-- R206 to R211: transfers; `TXS` alone leaves N and Z. -/
def Obligations.Transfers : Prop :=
  Computes .tax 1 (fun r => loadX r r.a) ∧
  Computes .tay 1 (fun r => loadY r r.a) ∧
  Computes .txa 1 (fun r => loadA r r.x) ∧
  Computes .tya 1 (fun r => loadA r r.y) ∧
  Computes .tsx 1 (fun r => loadX r r.sp) ∧
  Computes .txs 1 (fun r => { r with sp := r.x })

/-- R220 to R223, R21: pushes store at `$0100 | SP` and then lower SP; pulls raise SP and then read there. -/
def Obligations.StackPushesAndPulls : Prop :=
  ∀ s : State,
    (∃ t, exec .pha s = .next t ∧ Completes s t (s.cpu.pc + 1) { s.cpu.regs with sp := s.cpu.sp - 1 } ∧
      Pushed s t [s.cpu.a]) ∧
    (∃ t, exec .php s = .next t ∧ Completes s t (s.cpu.pc + 1) { s.cpu.regs with sp := s.cpu.sp - 1 } ∧
      Pushed s t [s.cpu.p.push true]) ∧
    (∃ t, exec .pla s = .next t ∧ MemoryKept s t ∧
      Completes s t (s.cpu.pc + 1)
        (loadA { s.cpu.regs with sp := s.cpu.sp + 1 } (stackRead 0x68 [dummyRow (·.pc) id, popDummyRow] 1 s))) ∧
    (∃ t, exec .plp s = .next t ∧ MemoryKept s t ∧
      Completes s t (s.cpu.pc + 1) { s.cpu.regs with
        sp := s.cpu.sp + 1, p := Flags.pull (stackRead 0x28 [dummyRow (·.pc) id, popDummyRow] 1 s) })

/-! ## Arithmetic, logic, shifts, flags (43_arithmetic.md, 44_logic_shift.md, 46_flags_nop.md, 47 R312) -/

/-- R230, R231: `ADC`, binary and decimal. -/
def Obligations.AddWithCarry : Prop :=
  ∀ (b : Byte) (w : Word),
  ReadForms addResult
    [(.adcIzx b, .izx b), (.adcZp b, .zp b), (.adcAbs w, .abs w), (.adcIzy b, .izy b), (.adcZpx b, .zpx b),
     (.adcAby w, .aby w), (.adcAbx w, .abx w)] ∧
  Computes (.adcImm b) 2 (addResult · b)

/-- R232, R233, R312: `SBC` and its duplicate `USBC`; the flags are binary in both modes. -/
def Obligations.SubtractWithBorrow : Prop :=
  ∀ (b : Byte) (w : Word),
  ReadForms subResult
    [(.sbcIzx b, .izx b), (.sbcZp b, .zp b), (.sbcAbs w, .abs w), (.sbcIzy b, .izy b), (.sbcZpx b, .zpx b),
     (.sbcAby w, .aby w), (.sbcAbx w, .abx w)] ∧
  Computes (.sbcImm b) 2 (subResult · b) ∧
  Computes (.usbcImm b) 2 (subResult · b)

/-- R234 to R236: compares write N, Z, C as an unsigned comparison and nothing else. -/
def Obligations.Compares : Prop :=
  ∀ (b : Byte) (w : Word),
  ReadForms (fun r m => withFlags r (compareFlags r.p r.a m))
    [(.cmpIzx b, .izx b), (.cmpZp b, .zp b), (.cmpAbs w, .abs w), (.cmpIzy b, .izy b), (.cmpZpx b, .zpx b),
     (.cmpAby w, .aby w), (.cmpAbx w, .abx w)] ∧
  Computes (.cmpImm b) 2 (fun r => withFlags r (compareFlags r.p r.a b)) ∧
  ReadForms (fun r m => withFlags r (compareFlags r.p r.x m))
    [(.cpxZp b, .zp b), (.cpxAbs w, .abs w)] ∧
  Computes (.cpxImm b) 2 (fun r => withFlags r (compareFlags r.p r.x b)) ∧
  ReadForms (fun r m => withFlags r (compareFlags r.p r.y m))
    [(.cpyZp b, .zp b), (.cpyAbs w, .abs w)] ∧
  Computes (.cpyImm b) 2 (fun r => withFlags r (compareFlags r.p r.y b))

/-- R237 to R242: the old value is written back, then the new one; N and Z follow it, C and V stay. -/
def Obligations.IncrementsAndDecrements : Prop :=
  ∀ (b : Byte) (w : Word),
  ModifyForms (fun _ v => v + 1)
    (fun r v => withFlags r (nz r.p (v + 1)))
    [(.incZp b, .zp b), (.incAbs w, .abs w), (.incZpx b, .zpx b), (.incAbx w, .abx w)] ∧
  ModifyForms (fun _ v => v - 1)
    (fun r v => withFlags r (nz r.p (v - 1)))
    [(.decZp b, .zp b), (.decAbs w, .abs w), (.decZpx b, .zpx b), (.decAbx w, .abx w)] ∧
  Computes .inx 1 (fun r => loadX r (r.x + 1)) ∧
  Computes .iny 1 (fun r => loadY r (r.y + 1)) ∧
  Computes .dex 1 (fun r => loadX r (r.x - 1)) ∧
  Computes .dey 1 (fun r => loadY r (r.y - 1))

/-- R250 to R253: `AND`, `ORA`, `EOR`; `BIT` takes N and V from the operand, Z from the AND, and keeps A. -/
def Obligations.LogicAndBitTest : Prop :=
  ∀ (b : Byte) (w : Word),
  ReadForms (fun r m => loadA r (r.a &&& m))
    [(.andIzx b, .izx b), (.andZp b, .zp b), (.andAbs w, .abs w), (.andIzy b, .izy b), (.andZpx b, .zpx b),
     (.andAby w, .aby w), (.andAbx w, .abx w)] ∧
  Computes (.andImm b) 2 (fun r => loadA r (r.a &&& b)) ∧
  ReadForms (fun r m => loadA r (r.a ||| m))
    [(.oraIzx b, .izx b), (.oraZp b, .zp b), (.oraAbs w, .abs w), (.oraIzy b, .izy b), (.oraZpx b, .zpx b),
     (.oraAby w, .aby w), (.oraAbx w, .abx w)] ∧
  Computes (.oraImm b) 2 (fun r => loadA r (r.a ||| b)) ∧
  ReadForms (fun r m => loadA r (r.a ^^^ m))
    [(.eorIzx b, .izx b), (.eorZp b, .zp b), (.eorAbs w, .abs w), (.eorIzy b, .izy b), (.eorZpx b, .zpx b),
     (.eorAby w, .aby w), (.eorAbx w, .abx w)] ∧
  Computes (.eorImm b) 2 (fun r => loadA r (r.a ^^^ b)) ∧
  ReadForms (fun r m => withFlags r { r.p with n := m.getLsbD 7, v := m.getLsbD 6, z := decide (r.a &&& m = 0) })
    [(.bitZp b, .zp b), (.bitAbs w, .abs w)]

/-- R254 to R257: C is the bit shifted out, N and Z follow the result, V stays; memory forms write the old value first. -/
def Obligations.ShiftsAndRotates : Prop :=
  ∀ (b : Byte) (w : Word),
  ModifyForms (fun _ v => aslValue v)
    (fun r v => withFlags r (shiftFlags r.p (aslValue v) (v.getLsbD 7)))
    [(.aslZp b, .zp b), (.aslAbs w, .abs w), (.aslZpx b, .zpx b), (.aslAbx w, .abx w)] ∧
  Computes .aslA 1 (fun r => { r with a := aslValue r.a, p := shiftFlags r.p (aslValue r.a) (r.a.getLsbD 7) }) ∧
  ModifyForms (fun _ v => lsrValue v)
    (fun r v => withFlags r (shiftFlags r.p (lsrValue v) (v.getLsbD 0)))
    [(.lsrZp b, .zp b), (.lsrAbs w, .abs w), (.lsrZpx b, .zpx b), (.lsrAbx w, .abx w)] ∧
  Computes .lsrA 1 (fun r => { r with a := lsrValue r.a, p := shiftFlags r.p (lsrValue r.a) (r.a.getLsbD 0) }) ∧
  ModifyForms (fun r v => rolValue r.p.c v)
    (fun r v => withFlags r (shiftFlags r.p (rolValue r.p.c v) (v.getLsbD 7)))
    [(.rolZp b, .zp b), (.rolAbs w, .abs w), (.rolZpx b, .zpx b), (.rolAbx w, .abx w)] ∧
  Computes .rolA 1 (fun r => { r with a := rolValue r.p.c r.a, p := shiftFlags r.p (rolValue r.p.c r.a) (r.a.getLsbD 7) }) ∧
  ModifyForms (fun r v => rorValue r.p.c v)
    (fun r v => withFlags r (shiftFlags r.p (rorValue r.p.c v) (v.getLsbD 0)))
    [(.rorZp b, .zp b), (.rorAbs w, .abs w), (.rorZpx b, .zpx b), (.rorAbx w, .abx w)] ∧
  Computes .rorA 1 (fun r => { r with a := rorValue r.p.c r.a, p := shiftFlags r.p (rorValue r.p.c r.a) (r.a.getLsbD 0) })

/-- R290 to R296: each writes its one flag and nothing else, is one byte long and takes two cycles when nothing stalls. -/
def Obligations.FlagInstructions : Prop :=
  Computes .clc 1 (fun r => withFlags r { r.p with c := false }) ∧
  Computes .sec 1 (fun r => withFlags r { r.p with c := true }) ∧
  Computes .cli 1 (fun r => withFlags r { r.p with i := false }) ∧
  Computes .sei 1 (fun r => withFlags r { r.p with i := true }) ∧
  Computes .cld 1 (fun r => withFlags r { r.p with d := false }) ∧
  Computes .sed 1 (fun r => withFlags r { r.p with d := true }) ∧
  Computes .clv 1 (fun r => withFlags r { r.p with v := false }) ∧
  (∀ p ∈ [(Instr.clc, 0x18#8), (.sec, 0x38#8), (.cli, 0x58#8), (.sei, 0x78#8), (.cld, 0xD8#8), (.sed, 0xF8#8), (.clv, 0xB8#8)],
    encode p.1 = [p.2] ∧
    ∀ (s : State) (rest : List Byte), s.inputs.resetReq = none → s.cpu.mip = .fetch → s.cpu.doNmi = false →
      s.cpu.doIrq = false → decode s.fetchBytes = .ok (p.1, rest) → s.Unstalled →
      ∃ t, step s = .next t ∧ t.cpu.lines.cycle = s.cpu.lines.cycle + 2)

/-- R297, R313, R119: the 28 `NOP` encodings pass over their bytes, perform their mode's reads and change nothing. -/
def Obligations.NoOperations : Prop :=
  ∀ (b : Byte) (w : Word),
  Computes .nopImp1A 1 id ∧
  Computes .nopImp3A 1 id ∧
  Computes .nopImp5A 1 id ∧
  Computes .nopImp7A 1 id ∧
  Computes .nopImpDA 1 id ∧
  Computes .nop 1 id ∧
  Computes .nopImpFA 1 id ∧
  Computes (.nopImm80 b) 2 id ∧
  Computes (.nopImm82 b) 2 id ∧
  Computes (.nopImm89 b) 2 id ∧
  Computes (.nopImmC2 b) 2 id ∧
  Computes (.nopImmE2 b) 2 id ∧
  ReadForms (fun r _ => r)
    [(.nopZp04 b, .zp b), (.nopAbs0C w, .abs w), (.nopZpx14 b, .zpx b), (.nopAbx1C w, .abx w), (.nopZpx34 b, .zpx b),
     (.nopAbx3C w, .abx w), (.nopZp44 b, .zp b), (.nopZpx54 b, .zpx b), (.nopAbx5C w, .abx w), (.nopZp64 b, .zp b),
     (.nopZpx74 b, .zpx b), (.nopAbx7C w, .abx w), (.nopZpxD4 b, .zpx b), (.nopAbxDC w, .abx w),
     (.nopZpxF4 b, .zpx b), (.nopAbxFC w, .abx w)]

/-! ## Control flow (45_control_flow.md) -/

/-- R270, R271, R172: `JMP`; the pointer's second byte comes from the same page. -/
def Obligations.Jumps : Prop :=
  ∀ (w : Word) (s : State),
    (∃ t, exec (.jmpAbs w) s = .next t ∧ Completes s t w s.cpu.regs ∧ MemoryKept s t) ∧
    (∃ t, exec (.jmpInd w) s = .next t ∧ MemoryKept s t ∧
      Completes s t
        (cat ((s.runInstr [0x6C, lo w, hi w] (tJmpInd.take 3)).nextRead (cat (hi w) (lo w + 1)))
          ((s.runInstr [0x6C, lo w, hi w] (tJmpInd.take 2)).nextRead w)) s.cpu.regs)

/-- R272, R273, R173, R174: `JSR` pushes the address of its last byte, and reads the target's high byte after the pushes;
`RTS` returns to the pulled address plus one. -/
def Obligations.SubroutineCallAndReturn : Prop :=
  (∀ (w : Word) (s : State), ∃ t, exec (.jsr w) s = .next t ∧
    Completes s t (cat ((s.runInstr [0x20, lo w] (tJsr.take 4)).nextRead (s.cpu.pc + 2)) (lo w))
      { s.cpu.regs with sp := s.cpu.sp - 2 } ∧
    Pushed s t [hi (s.cpu.pc + 2), lo (s.cpu.pc + 2)]) ∧
  (∀ s : State, ∃ t, exec .rts s = .next t ∧ MemoryKept s t ∧
    Completes s t (cat (stackRead 0x60 (tRts.take 3) 2 s) (stackRead 0x60 (tRts.take 2) 1 s) + 1)
      { s.cpu.regs with sp := s.cpu.sp + 2 })

/-- R276 to R284: the eight branches. -/
def Obligations.Branches : Prop :=
  ∀ b : Byte,
    BranchesIf (.bpl b) b (fun p => !p.n) ∧ BranchesIf (.bmi b) b (·.n) ∧ BranchesIf (.bvc b) b (fun p => !p.v) ∧
    BranchesIf (.bvs b) b (·.v) ∧ BranchesIf (.bcc b) b (fun p => !p.c) ∧ BranchesIf (.bcs b) b (·.c) ∧
    BranchesIf (.bne b) b (fun p => !p.z) ∧ BranchesIf (.beq b) b (·.z)

/-! ## Undocumented instructions (47_undocumented.md) -/

/-- R300 to R303, R306, R307: `SLO`, `RLA`, `SRE`, `RRA`, `DCP`, `ISC`. -/
def Obligations.CombinedModifies : Prop :=
  ∀ (b : Byte) (w : Word),
  ModifyForms (fun _ v => aslValue v)
    (fun r v => { r with a := r.a ||| aslValue v, p := shiftFlags r.p (r.a ||| aslValue v) (v.getLsbD 7) })
    [(.sloIzx b, .izx b), (.sloZp b, .zp b), (.sloAbs w, .abs w), (.sloIzy b, .izy b), (.sloZpx b, .zpx b),
     (.sloAby w, .aby w), (.sloAbx w, .abx w)] ∧
  ModifyForms (fun r v => rolValue r.p.c v)
    (fun r v => { r with a := r.a &&& rolValue r.p.c v,
                         p := shiftFlags r.p (r.a &&& rolValue r.p.c v) (v.getLsbD 7) })
    [(.rlaIzx b, .izx b), (.rlaZp b, .zp b), (.rlaAbs w, .abs w), (.rlaIzy b, .izy b), (.rlaZpx b, .zpx b),
     (.rlaAby w, .aby w), (.rlaAbx w, .abx w)] ∧
  ModifyForms (fun _ v => lsrValue v)
    (fun r v => { r with a := r.a ^^^ lsrValue v, p := shiftFlags r.p (r.a ^^^ lsrValue v) (v.getLsbD 0) })
    [(.sreIzx b, .izx b), (.sreZp b, .zp b), (.sreAbs w, .abs w), (.sreIzy b, .izy b), (.sreZpx b, .zpx b),
     (.sreAby w, .aby w), (.sreAbx w, .abx w)] ∧
  ModifyForms (fun r v => rorValue r.p.c v)
    (fun r v => addResult (withFlags r { r.p with c := v.getLsbD 0 }) (rorValue r.p.c v))
    [(.rraIzx b, .izx b), (.rraZp b, .zp b), (.rraAbs w, .abs w), (.rraIzy b, .izy b), (.rraZpx b, .zpx b),
     (.rraAby w, .aby w), (.rraAbx w, .abx w)] ∧
  ModifyForms (fun _ v => v - 1)
    (fun r v => withFlags r (compareFlags r.p r.a (v - 1)))
    [(.dcpIzx b, .izx b), (.dcpZp b, .zp b), (.dcpAbs w, .abs w), (.dcpIzy b, .izy b), (.dcpZpx b, .zpx b),
     (.dcpAby w, .aby w), (.dcpAbx w, .abx w)] ∧
  ModifyForms (fun _ v => v + 1)
    (fun r v => subResult r (v + 1))
    [(.iscIzx b, .izx b), (.iscZp b, .zp b), (.iscAbs w, .abs w), (.iscIzy b, .izy b), (.iscZpx b, .zpx b),
     (.iscAby w, .aby w), (.iscAbx w, .abx w)]

/-- R308 to R311, R316, R317: `ANC`, `ALR`, `ARR`, `SBX`, and `ANE`, `LXA` with the OPEN constants, any value. -/
def Obligations.ImmediateCombinations : Prop :=
  ∀ b : Byte,
  Computes (.ancImm0B b) 2 (fun r => { r with a := r.a &&& b, p := shiftFlags r.p (r.a &&& b) ((r.a &&& b).getLsbD 7) }) ∧
  Computes (.ancImm2B b) 2 (fun r => { r with a := r.a &&& b, p := shiftFlags r.p (r.a &&& b) ((r.a &&& b).getLsbD 7) }) ∧
  Computes (.alrImm b) 2
    (fun r => { r with a := lsrValue (r.a &&& b),
                       p := shiftFlags r.p (lsrValue (r.a &&& b)) ((r.a &&& b).getLsbD 0) }) ∧
  Computes (.arrImm b) 2 (arrResult · b) ∧
  Computes (.sbxImm b) 2 (fun r => { r with x := (r.a &&& r.x) - b, p := compareFlags r.p (r.a &&& r.x) b }) ∧
  (∀ s : State, ∃ t, exec (.aneImm b) s = .next t ∧ MemoryKept s t ∧
    Completes s t (s.cpu.pc + 2) (loadA s.cpu.regs ((s.cpu.a ||| s.cfg.aneMagic) &&& s.cpu.x &&& b))) ∧
  (∀ s : State, ∃ t, exec (.lxaImm b) s = .next t ∧ MemoryKept s t ∧
    Completes s t (s.cpu.pc + 2) { loadA s.cpu.regs ((s.cpu.a ||| s.cfg.lxaMagic) &&& b) with
      x := (s.cpu.a ||| s.cfg.lxaMagic) &&& b })

/-- R318 to R321, U3: `SHA`, `SHX`, `SHY`, `TAS` store their register AND (H + 1), any byte if a stall fell inside (the model's
choice, log 9); on a page cross the high address byte is the value stored; `TAS` also writes SP, after such a stall
too (log 9). -/
def Obligations.UnstableStores : Prop :=
  ∀ (b : Byte) (w : Word),
  UnstableWrites (.shaAby w) (.aby w) (fun r => r.a &&& r.x) id ∧
  UnstableWrites (.shaIzy b) (.izy b) (fun r => r.a &&& r.x) id ∧
  UnstableWrites (.shxAby w) (.aby w) (·.x) id ∧
  UnstableWrites (.shyAbx w) (.abx w) (·.y) id ∧
  UnstableWrites (.tasAby w) (.aby w) (fun r => r.a &&& r.x) (fun r => { r with sp := r.a &&& r.x })

/-- R314, R177, R400, R149: a jam opcode leaves the CPU jammed with its error recorded, PC past the opcode and nothing else
changed; then there is no step until reset, whatever interrupts are pending. -/
def Obligations.Jams : Prop :=
  ∀ i ∈ [Instr.jam02, .jam12, .jam22, .jam32, .jam42, .jam52, .jam62, .jam72, .jam92, .jamB2, .jamD2, .jamF2],
    ∀ s : State, ∃ t, exec i s = .next t ∧ t.cpu.mip = .jammed ∧ t.cpu.errorState = .illegal ∧ t.cpu.jamFlag = true ∧
      t.cpu.pc = s.cpu.pc + 1 ∧ t.cpu.pcFrozen = s.cpu.pc ∧ t.cpu.regs = s.cpu.regs ∧ MemoryKept s t ∧
      t.cfg = s.cfg ∧ t.rom = s.rom ∧ t.inputs = s.inputs ∧
      (s.inputs.resetReq = none → step t = .fault .jammed)

/-! ## Bus and banking (20_memory.md sections 2, 6; 10_state.md section 5) -/

/-- R74, R75, R76: the read table of R74 outside ultimax; the write table follows it (R75); the ultimax map (R76, P10),
whatever LORAM, HIRAM, CHAREN are. -/
def Obligations.BankTables : Prop :=
  (∀ (unmapped : Bool) (b : BankLines) (page : Nat), page < 16 → b.ultimax = false →
    peekSrc unmapped b page = bankEntry b page ∧
    Machine.pokeTarget unmapped b page = if page = 13 ∧ peekSrc unmapped b 13 = .io then .io else .ram) ∧
  (∀ (unmapped charen hiram loram : Bool),
    let b : BankLines := { exrom := true, game := false, charen := charen, hiram := hiram, loram := loram }
    (∀ page ∈ [8, 9], peekSrc unmapped b page = .crtLo ∧ Machine.pokeTarget unmapped b page = .unmapped) ∧
    (∀ page ∈ [14, 15], peekSrc unmapped b page = .crtHi ∧ Machine.pokeTarget unmapped b page = .unmapped) ∧
    peekSrc unmapped b 0 = .ram ∧ Machine.pokeTarget unmapped b 0 = .ram ∧
    peekSrc unmapped b 13 = .io ∧ Machine.pokeTarget unmapped b 13 = .io ∧
    (∀ page ∈ [1, 2, 3, 4, 5, 6, 7, 10, 11, 12], peekSrc unmapped b page = (if unmapped then .unmapped else .ram) ∧
      Machine.pokeTarget unmapped b page = (if unmapped then .unmapped else .ram)))

/-- R71: where a CPU write goes; no ROM changes, and outside ultimax a page that reads as a ROM is written to the RAM
underneath. -/
def Obligations.WriteRouting : Prop :=
  (∀ (s : State) (a : Word) (v : Byte), let t := s.busWrite a v
    (s.portAt a = true → t = s.portWrite a v ∧ t.ram = s.ram) ∧
    (s.portAt a = false → s.pokeTarget a = .ram → t = { s with ram := s.ram.write a.toNat v }) ∧
    (s.portAt a = false → s.pokeTarget a = .io → t = s.ioWrite a v) ∧
    (s.portAt a = false → s.pokeTarget a = .unmapped → t = s) ∧
    t.rom = s.rom ∧ t.cart.romL = s.cart.romL ∧ t.cart.romH = s.cart.romH) ∧
  (∀ (unmapped : Bool) (b : BankLines) (page : Nat), page < 16 → b.ultimax = false →
    peekSrc unmapped b page ∈ [PeekSource.basic, .char, .kernal, .crtLo, .crtHi] →
    Machine.pokeTarget unmapped b page = .ram)

/-- R35: reads of the processor port, bit by bit: the data register where the direction bit is 1, the pin elsewhere; no side
effect. -/
def Obligations.PortReads : Prop :=
  ∀ s : State, s.cfg.cpuModel = .mos6510 →
    s.busRead 0 = (s.port.dir, s) ∧ (s.busRead 1).2 = s ∧
    ∀ k < 8, (s.busRead 1).1.getLsbD k = if s.port.dir.getLsbD k then s.port.data.getLsbD k else portPin s k

/-- R36: a write of the direction register schedules the discharge of bits 3, 6, 7, and the bit reads 1 before its discharge
cycle, 0 from it on: set 349 999 cycles later, clear one cycle after that (bit 6). -/
def Obligations.PortDischarge : Prop :=
  (∀ (s : State) (new : Byte), s.cfg.cpuModel = .mos6510 → let t := s.busWrite 0 new
    t.port.discharge3 = dischargeAfter s s.cfg.discharge3 3 new s.port.discharge3 ∧
    t.port.discharge6 = dischargeAfter s s.cfg.discharge6 6 new s.port.discharge6 ∧
    t.port.discharge7 = dischargeAfter s s.cfg.discharge7 7 new s.port.discharge7) ∧
  (∀ s : State, s.cfg.cpuModel = .mos6510 → ∀ k ∈ [3, 6, 7], s.port.dir.getLsbD k = false →
    (s.busRead 1).1.getLsbD k =
      (decide (s.cpu.lines.cycle <
        (if k = 3 then s.port.discharge3 else if k = 6 then s.port.discharge6 else s.port.discharge7)) &&
      !(decide (k = 3) && s.cfg.bit3Pulldown.contains (s.port.dir, s.port.data)))) ∧
  (∀ (s u : State), s.cfg.cpuModel = .mos6510 → s.cfg.discharge6 = 350000 → s.port.dir = 0xFF → s.port.data = 0xFF →
    s.cpu.lines.cycle.toNat + 350000 < 2 ^ 64 → u.cfg = s.cfg → u.port = (s.busWrite 0 0).port →
    (u.cpu.lines.cycle = s.cpu.lines.cycle + 349999 → (u.busRead 1).1.getLsbD 6 = true) ∧
    (u.cpu.lines.cycle = s.cpu.lines.cycle + 350000 → (u.busRead 1).1.getLsbD 6 = false))

/-- R94, R63, R78: a read gives the latest write of its address: RAM whole bytes, colour RAM low nibbles; other addresses in
RAM are not disturbed. -/
def Obligations.ReadAfterWrite : Prop :=
  ∀ (s : State) (a : Word) (v : Byte),
    (s.ramAt a = true → s.peekSource a = .ram → ((s.busWrite a v).busRead a).1 = v ∧
      ∀ b, b ≠ a → s.portAt b = false → s.peekSource b = .ram → ((s.busWrite a v).busRead b).1 = (s.busRead b).1) ∧
    (s.colorAt a = true → ((s.busWrite a v).busRead a).1 &&& 0x0F = v &&& 0x0F)

/-! ## CIA (60_exceptions.md section 6) -/

/-- R449, R453, R454: timer A in one-shot mode, latch L, CRA written with `%00011001` in cycle 0 on an idle chip: the counter
reads L in cycle 1 and L - n + 1 in cycle n, the underflow is in cycle L + 1 exactly, CRA bit 0 reads 0 after, ICR bit 0 is
set, and the line is pulled in the cycle after it if and only if IMR bit 0 is set. It holds for every layout of the
pipeline (`cia_delay_bits`, R448) whose chains lie apart. -/
def Obligations.TimerOneShot : Prop :=
  ∀ (cfg : Config) (c : Cia) (l : Nat), cfg.ciaModel = .mos6526 → cfg.ciaBitsOk = true → 0 < l → l < 65536 →
    c.delay = 0 → c.feed = 0 → c.cra = 0 → c.latchA = BitVec.ofNat 16 l →
    let r := fun n => (Cia.step cfg)^[n] (c.write cfg 14 0x19)
    (∀ n, 1 ≤ n → n ≤ l + 1 → (r n).counterA = BitVec.ofNat 16 (l + 1 - n)) ∧
    (∀ n, 1 ≤ n → n ≤ l → (r n).taOut = false ∧ (r n).cra.getLsbD 0 = true) ∧
    (r (l + 1)).taOut = true ∧ (r (l + 1)).cra.getLsbD 0 = false ∧ (r (l + 1)).icr.getLsbD 0 = true ∧
    (c.icr = 0 → c.irqOut = false → c.imr &&& 0xFE = 0 →
      (∀ n, 1 ≤ n → n ≤ l + 1 → (r n).irqOut = false) ∧ (r (l + 2)).irqOut = c.imr.getLsbD 0)

/-- R455, R456: a read of the ICR of a 6526 returns the pending flags with bit 7 for an enabled one; in the next cycle they
are clear and the line is released. That flags which fire in that next cycle stay, while the line is released all the same,
is the model's choice (log 14), and so is the falling edge of FLAG (log 12). `icrNext` holds the late flags of an 8521 (R458); a 6526 has none, and keeps none whatever
it does. -/
def Obligations.IcrAcknowledge : Prop :=
  (∀ (cfg : Config) (ext : Byte) (c : Cia), cfg.ciaModel = .mos6526 → cfg.ciaTimerBBug = false →
    cfg.ciaBitsOk = true → c.icrNext = 0 →
    let x := c.read cfg ext 13
    let n := x.2.step cfg
    x.1 = c.icr ||| (if c.icr &&& c.imr &&& 0x1F = 0 then 0 else 0x80) ∧ n.irqOut = false ∧
    n.icr.getLsbD 0 = n.taOut ∧ n.icr.getLsbD 1 = n.tbOut ∧ n.icr.getLsbD 2 = (n.tod.matched && !c.tod.matched) ∧
    n.icr.getLsbD 4 = (c.flagPrev && !c.flagPin)) ∧
  (∀ (cfg : Config) (ext v : Byte) (r : Nat) (c : Cia), cfg.ciaModel = .mos6526 → c.icrNext = 0 →
    (c.step cfg).icrNext = 0 ∧ (c.read cfg ext r).2.icrNext = 0 ∧ (c.write cfg r v).icrNext = 0)

/-- P9 (R460): ten tenths later the tenths are as before, the seconds one more modulo 60, all digits valid BCD. -/
def Obligations.TodTenTicks : Prop :=
  ∀ t : TodTime, t.tenths.toNat ≤ 9 → t.seconds.toNat % 16 ≤ 9 → t.seconds.toNat / 16 ≤ 5 →
    let u := TodTime.tenth^[10] t
    u.tenths = t.tenths ∧ u.seconds.toNat % 16 ≤ 9 ∧ u.seconds.toNat / 16 ≤ 5 ∧
    u.seconds.toNat / 16 * 10 + u.seconds.toNat % 16 = (t.seconds.toNat / 16 * 10 + t.seconds.toNat % 16 + 1) % 60

/-! ## VIC-II (60_exceptions.md section 7) -/

/-- R475, R476, P8: the DEN latch and the bad line condition in every cycle, from the delayed registers. That the latch is
cleared at the start of a frame is R476's own general knowledge. -/
def Obligations.BadLineRule : Prop :=
  ∀ (m : VicModel) (i : VicInputs) (v : Vic), let w := v.step m i
    w.denLatch = (decide (v.line = 0x30 ∧ (v.del.read 0x11).getLsbD 4 = true) ||
      (v.denLatch && !decide (v.line = 0 ∧ v.cycle = 1))) ∧
    w.badLine = (w.denLatch &&
      decide (0x30 ≤ v.line ∧ v.line ≤ 0xF7 ∧ v.line % 8 = (v.del.read 0x11).toNat % 8))

/-- R470: the geometry of the three models; the cycle runs from 1, the line from 0; after a frame's cycles the position is
the same again; and every clock cycle of the machine advances it, at its end (the place is the model's choice, log 17). -/
def Obligations.RasterFrame : Prop :=
  (VicModel.pal6569.cyclesPerLine = 63 ∧ VicModel.pal6569.linesPerFrame = 312) ∧
  (VicModel.ntsc6567.cyclesPerLine = 65 ∧ VicModel.ntsc6567.linesPerFrame = 263) ∧
  (VicModel.ntsc6567R56A.cyclesPerLine = 64 ∧ VicModel.ntsc6567R56A.linesPerFrame = 262) ∧
  ∀ (m : VicModel) (v : Vic), 1 ≤ v.cycle → v.cycle ≤ m.cyclesPerLine → v.line < m.linesPerFrame →
    (v.cycle < m.cyclesPerLine → v.advance m = { v with cycle := v.cycle + 1 }) ∧
    (v.cycle = m.cyclesPerLine → v.advance m = { v with cycle := 1, line := (v.line + 1) % m.linesPerFrame }) ∧
    (Vic.advance m)^[m.cyclesPerLine * m.linesPerFrame] v = v ∧
    ∀ (s : State) (r : Row), s.cfg.vicModel = m → s.cpu.currentRow s.cfg = some r →
      s.clock.vic.cycle = (s.vic.advance m).cycle ∧ s.clock.vic.line = (s.vic.advance m).line

/-- R486: the collision registers keep set bits until read, a read returns and clears them, they cannot be written. -/
def Obligations.CollisionRegisters : Prop :=
  ∀ (m : VicModel) (i : VicInputs) (cfg : Config) (x : Byte) (v : Vic),
    (v.step m i).mm &&& v.mm = v.mm ∧ (v.step m i).md &&& v.md = v.md ∧
    v.read 0x1E = (v.mm, { v with mm := 0 }) ∧ v.read 0x1F = (v.md, { v with md := 0 }) ∧
    v.write cfg 0x1E x = v ∧ v.write cfg 0x1F x = v

/-! ## 1541 drive (60_exceptions.md section 8) -/

/-- P4 (R523): decoding the GCR code of a byte gives it back, for any table of 16 different codes. -/
def Obligations.GcrRoundTrip : Prop :=
  ∀ (table : List (BitVec 5)) (b : Byte), table.length = 16 → table.Nodup → decodeGcr table (encodeGcr table b) = some b

/-- R527: a write-protected disk is not changed by any run of the drive; the drive CPU sees the sense bit on VIA2 PB4 and on
no other pin of port B (its polarity is R520's own general knowledge); a bit event leaves everything but the disk as it
leaves it on the same disk unprotected. -/
def Obligations.ProtectedDiskKept : Prop :=
  (∀ (cfg : Config) (p : IecPulls) (now : Nat) (d : Drive), d.disk.writeProtected = true →
    (d.run cfg p now).disk = d.disk) ∧
  (∀ (free : Byte) (d : Drive), (d.via2PinsB free).getLsbD 4 = !d.disk.writeProtected) ∧
  (∀ (d : Drive), let e := { d with disk := { d.disk with writeProtected := !d.disk.writeProtected } }
    (∀ (free : Byte) (k : Nat), k ≠ 4 → (e.via2PinsB free).getLsbD k = (d.via2PinsB free).getLsbD k) ∧
    { e.bitReady with disk := d.disk } = { d.bitReady with disk := d.disk })

/-- R513, R514: a drive CPU cycle takes 10 000 tenths of a nanosecond, a UE7 carry 16 - density ticks of 625; after a C64
cycle no drive event that is due is left. -/
def Obligations.DriveKeepsTime : Prop :=
  ∀ (cfg : Config) (p : IecPulls) (now : Nat) (d : Drive),
    (d.clockEvent cfg p).nextClock = d.nextClock + 10000 ∧
    d.carryEvent.nextCarry = d.nextCarry + (16 - d.density.toNat) * 625 ∧
    now < (d.run cfg p now).nextClock ∧ now < (d.run cfg p now).nextCarry
end

