-- ==== Sys2Proof/Laws/Arith.lean ====
section
/-! SUPPORT. The flag computations of Flags.lean against the arithmetic they stand for: bit tests as comparisons of numbers,
overflow as a range, digits as quotients and remainders. -/

namespace Sys2Proof.Machine

/-! ## Bits as numbers -/

theorem bit7_eq (v : Byte) : v.getLsbD 7 = decide (128 ≤ v.toNat) := by
  rw [← BitVec.msb_eq_getLsbD_last (x := v), BitVec.msb_eq_decide]

theorem bit0_eq (v : Byte) : v.getLsbD 0 = decide (v.toNat % 2 = 1) := by
  rw [BitVec.getLsbD, Nat.testBit_zero]

theorem and80_ne (x : Byte) : ((x &&& 0x80#8) != 0#8) = x.getLsbD 7 := by revert x; decide +kernel

theorem ofNat_bit7 (n : Nat) : (BitVec.ofNat 8 n).getLsbD 7 = decide (n / 128 % 2 = 1) := by
  rw [bit7_eq, BitVec.toNat_ofNat, decide_eq_decide]; omega

theorem toInt_eq (v : Byte) : v.toInt = if 128 ≤ v.toNat then (v.toNat : Int) - 256 else v.toNat := by
  rw [BitVec.toInt_eq_toNat_cond]; have := v.isLt; split <;> split <;> omega

theorem flagNat_le (b : Bool) : b.toNat ≤ 1 := by cases b <;> decide

@[simp] theorem setNZ_eq (p : Flags) (v : Byte) : p.setNZ v = nz p v := by
  simp only [Flags.setNZ, nz]; congr 1

/-! ## Addition (43_arithmetic.md R230, R231) -/

theorem sum_bit7 (a m : Byte) (c : Bool) :
    (BitVec.ofNat 8 (a.toNat + m.toNat + c.toNat)).getLsbD 7 = decide ((a.toNat + m.toNat + c.toNat) / 128 % 2 = 1) :=
  ofNat_bit7 _

/-- The overflow test of `ADC` is signed overflow. -/
theorem add_overflow (a m : Byte) (c : Bool) :
    (((a ^^^ BitVec.ofNat 8 (a.toNat + m.toNat + c.toNat)) &&& (m ^^^ BitVec.ofNat 8 (a.toNat + m.toNat + c.toNat)) &&&
      0x80#8) != 0#8) = signedOverflow (a.toInt + m.toInt + c.toNat) := by
  rw [and80_ne, BitVec.getLsbD_and, BitVec.getLsbD_xor, BitVec.getLsbD_xor, sum_bit7, bit7_eq, bit7_eq, signedOverflow,
    toInt_eq, toInt_eq]
  have ha := a.isLt; have hm := m.isLt; have hc := flagNat_le c
  rw [Bool.eq_iff_iff]
  by_cases h1 : 128 ≤ a.toNat <;> by_cases h2 : 128 ≤ m.toNat <;>
    by_cases h3 : (a.toNat + m.toNat + c.toNat) / 128 % 2 = 1 <;> simp [h1, h2, h3] <;> omega

theorem adc_eq (r : Regs) (m : Byte) :
    ({ r with a := (adc r.p r.a m).1, p := (adc r.p r.a m).2 } : Regs) = addResult r m := by
  unfold adc addResult
  split
  · simp only [adcDecimal, addDecimal, adcDecimalSum, adcDecimalLow, Flags.cNat, and80_ne, BitVec.getLsbD_and,
      BitVec.getLsbD_xor, ofNat_bit7, ge_iff_le]
    congr 2
    rw [Bool.eq_iff_iff, beq_iff_eq, decide_eq_true_eq, ← BitVec.toNat_inj, BitVec.toNat_ofNat]
    rfl
  · simp only [adcBinary, addBinary, Flags.cNat, add_overflow, setNZ_eq, gt_iff_lt]

/-! ## Subtraction and comparison (43 R232 to R234) -/

theorem not_toNat (m : Byte) : (m ^^^ 0xFF#8).toNat = 255 - m.toNat := by revert m; decide +kernel

/-- The overflow test of `SBC` is signed overflow of the difference. -/
theorem sub_overflow (a m : Byte) (c : Bool) :
    (((a ^^^ m) &&& (a ^^^ BitVec.ofNat 8 (a.toNat + (255 - m.toNat) + c.toNat)) &&& 0x80#8) != 0#8) =
      signedOverflow (a.toInt - m.toInt - 1 + c.toNat) := by
  rw [and80_ne, BitVec.getLsbD_and, BitVec.getLsbD_xor, BitVec.getLsbD_xor, ofNat_bit7, bit7_eq, bit7_eq, signedOverflow,
    toInt_eq, toInt_eq]
  have ha := a.isLt; have hm := m.isLt; have hc := flagNat_le c
  rw [Bool.eq_iff_iff]
  by_cases h1 : 128 ≤ a.toNat <;> by_cases h2 : 128 ≤ m.toNat <;>
    by_cases h3 : (a.toNat + (255 - m.toNat) + c.toNat) / 128 % 2 = 1 <;> simp [h1, h2, h3] <;> omega

theorem sbc_eq (r : Regs) (m : Byte) :
    ({ r with a := (sbc r.p r.a m).1, p := (sbc r.p r.a m).2 } : Regs) = subResult r m := by
  simp only [sbc, subResult, sbcBinary, sbcDecimal, subDecimal, Flags.cNat, not_toNat, sub_overflow, setNZ_eq, gt_iff_lt]
  push_cast
  rfl

theorem compare_eq (p : Flags) (x m : Byte) : compare p x m = compareFlags p x m := by
  simp only [compare, compareFlags]; congr 1

/-! ## Shifts (44_logic_shift.md R254 to R257) and `ARR` (47_undocumented.md R310) -/

theorem asl_fst (v : Byte) : (asl v).1 = aslValue v := by revert v; decide +kernel
theorem lsr_fst (v : Byte) : (lsr v).1 = lsrValue v := by revert v; decide +kernel
theorem rol_fst (c : Bool) (v : Byte) : (rol c v).1 = rolValue c v := by revert c v; decide +kernel
theorem ror_fst (c : Bool) (v : Byte) : (ror c v).1 = rorValue c v := by revert c v; decide +kernel

theorem asl_snd (v : Byte) : (asl v).2 = v.getLsbD 7 := rfl
theorem lsr_snd (v : Byte) : (lsr v).2 = v.getLsbD 0 := rfl
theorem rol_snd (c : Bool) (v : Byte) : (rol c v).2 = v.getLsbD 7 := rfl
theorem ror_snd (c : Bool) (v : Byte) : (ror c v).2 = v.getLsbD 0 := rfl

theorem and0F_toNat (t : Byte) : (t &&& 0x0F#8).toNat = t.toNat % 16 := by revert t; decide +kernel
theorem and01_toNat (t : Byte) : (t &&& 0x01#8).toNat = t.toNat % 2 := by revert t; decide +kernel
theorem andF0_toNat (t : Byte) : (t &&& 0xF0#8).toNat = t.toNat / 16 * 16 := by revert t; decide +kernel
theorem and10_toNat (t : Byte) : (t &&& 0x10#8).toNat = t.toNat / 16 % 2 * 16 := by revert t; decide +kernel
theorem low_digit (r : Byte) :
    (r &&& 0xF0#8) ||| ((r + 0x06#8) &&& 0x0F#8) = BitVec.ofNat 8 (r.toNat / 16 * 16 + (r.toNat + 6) % 16) := by
  revert r; decide +kernel
theorem high_digit (r : Byte) :
    (r &&& 0x0F#8) ||| ((r + 0x60#8) &&& 0xF0#8) = BitVec.ofNat 8 (r.toNat % 16 + (r.toNat + 0x60) / 16 % 16 * 16) := by
  revert r; decide +kernel

theorem arr_eq (r : Regs) (m : Byte) :
    ({ r with a := (arr r.p r.a m).1, p := (arr r.p r.a m).2 } : Regs) = arrResult r m := by
  unfold arr arrResult
  by_cases hd : r.p.d = true
  · simp only [hd, if_true, arrDecimal, and0F_toNat, and01_toNat, andF0_toNat, and10_toNat, low_digit, high_digit,
      BitVec.getLsbD_xor, ror_fst, gt_iff_lt]
    have hr := (rorValue r.p.c (r.a &&& m)).isLt
    congr 1
    · by_cases hl : 5 < (r.a &&& m).toNat % 16 + (r.a &&& m).toNat % 2 <;>
        by_cases hh : 0x50 < (r.a &&& m).toNat / 16 * 16 + (r.a &&& m).toNat / 16 % 2 * 16 <;>
        simp only [hl, hh, decide_true, decide_false, if_true, if_false, Bool.false_eq_true]
      · rw [BitVec.toNat_ofNat, Nat.mod_eq_of_lt (a := _ + _) (by omega)]
      · simp
  · simp only [hd, arrBinary, ror_fst, setNZ_eq]; rfl

end Sys2Proof.Machine
end

