-- ==== Sys2Proof/Laws/Memory.lean ====
section
/-! SUPPORT. The laws of memory: reading after writing, and that writing keeps the canonical form and the address bound. -/

namespace Sys2Proof.Machine

@[simp] theorem Memory.read_nil (k : Nat) : Memory.read [] k = 0#8 := rfl

/-- Reading a written address gives the value written. -/
@[simp] theorem Memory.read_write_same (m : Memory) (k : Nat) (v : Byte) : (Memory.write m k v).read k = v := by
  induction m with
  | nil => by_cases hv : v = 0#8 <;> simp [Memory.write, Memory.read, hv]
  | cons c m ih =>
    obtain ⟨a, b⟩ := c
    by_cases hv : v = 0#8
    · subst hv
      simp only [Memory.write, if_true]
      split
      · rename_i h; simpa [Memory.read, show k ≠ a by omega] using ih
      · split
        · exact ih
        · rename_i h; simpa [Memory.read, h] using ih
    · simp only [Memory.write, if_neg hv]
      split
      · simp [Memory.read]
      · split
        · simp [Memory.read]
        · rename_i h; simpa [Memory.read, h] using ih

/-- Writing leaves every other address alone. -/
theorem Memory.read_write_other (m : Memory) (k j : Nat) (v : Byte) (h : j ≠ k) :
    (Memory.write m k v).read j = m.read j := by
  induction m with
  | nil => by_cases hv : v = 0#8 <;> simp [Memory.write, Memory.read, hv, h]
  | cons c m ih =>
    obtain ⟨a, b⟩ := c
    simp only [Memory.write]
    split
    · split
      · simp [Memory.read, ih]
      · simp [Memory.read, h]
    · split
      · rename_i hk; subst hk
        split <;> simp [Memory.read, h, ih]
      · simp [Memory.read, ih]

/-- Reading after a write, both cases. -/
theorem Memory.read_write (m : Memory) (k j : Nat) (v : Byte) :
    (Memory.write m k v).read j = if j = k then v else m.read j := by
  by_cases h : j = k
  · subst h; simp
  · simp [h, Memory.read_write_other _ _ _ _ h]

/-! ## The canonical form -/

/-- Every listed address is above `n`. -/
def Memory.above (n : Nat) (m : Memory) : Prop := ∀ c ∈ m, n < c.1

/-- The canonical form of a nonempty memory, by its head and tail. -/
theorem Memory.wf_cons (a : Nat) (b : Byte) (m : Memory) :
    Memory.wf ((a, b) :: m) = true ↔ b ≠ 0#8 ∧ Memory.above a m ∧ Memory.wf m = true := by
  induction m generalizing a b with
  | nil => simp [Memory.wf, Memory.above]
  | cons c m ih =>
    obtain ⟨a', b'⟩ := c
    simp only [Memory.wf, Bool.and_eq_true, bne_iff_ne, decide_eq_true_eq, Memory.above, List.forall_mem_cons]
    constructor
    · rintro ⟨⟨hb, ha⟩, hw⟩
      exact ⟨hb, ⟨ha, fun c hc => lt_trans ha (((ih a' b').1 hw).2.1 c hc)⟩, hw⟩
    · rintro ⟨hb, ⟨ha, _⟩, hw⟩
      exact ⟨⟨hb, ha⟩, hw⟩

/-- A write adds no cell but the one it writes, and none for the value 0. -/
theorem Memory.mem_write (m : Memory) (k : Nat) (v : Byte) (c : Host.Cell) (h : c ∈ Memory.write m k v) :
    (c = (k, v) ∧ v ≠ 0#8) ∨ c ∈ m := by
  induction m with
  | nil =>
    simp only [Memory.write] at h
    split at h <;> simp_all
  | cons d m ih =>
    obtain ⟨a, b⟩ := d
    simp only [Memory.write] at h
    split at h
    · split at h
      · rcases List.mem_cons.1 h with h | h
        · simp [h]
        · rcases ih h with h | h <;> simp [h]
      · rcases List.mem_cons.1 h with h | h <;> simp_all
    · split at h
      · split at h
        · rcases ih h with h | h <;> simp [h]
        · rcases List.mem_cons.1 h with h | h <;> simp_all
      · rcases List.mem_cons.1 h with h | h
        · simp [h]
        · rcases ih h with h | h <;> simp [h]

/-- A write keeps the canonical form. -/
theorem Memory.wf_write (m : Memory) (k : Nat) (v : Byte) (h : m.wf = true) : (Memory.write m k v).wf = true := by
  induction m with
  | nil => simp only [Memory.write]; split <;> simp_all [Memory.wf]
  | cons d m ih =>
    obtain ⟨a, b⟩ := d
    obtain ⟨hb, ha, hm⟩ := (Memory.wf_cons a b m).1 h
    have ab (hk : a < k) : Memory.above a (Memory.write m k v) := fun c hc => by
      rcases Memory.mem_write m k v c hc with ⟨rfl, _⟩ | hc
      · exact hk
      · exact ha c hc
    simp only [Memory.write]
    split
    · rename_i hk
      split
      · rename_i hv
        refine (Memory.wf_cons a b _).2 ⟨hb, fun c hc => ?_, ih hm⟩
        rcases Memory.mem_write m k v c hc with ⟨_, h0⟩ | hc
        · exact absurd hv h0
        · exact ha c hc
      · rename_i hv
        refine (Memory.wf_cons k v _).2 ⟨hv, ?_, h⟩
        intro c hc
        rcases List.mem_cons.1 hc with rfl | hc
        · exact hk
        · exact lt_trans hk (ha c hc)
    · split
      · rename_i hk; subst hk
        split
        · exact ih hm
        · rename_i hv; exact (Memory.wf_cons k v m).2 ⟨hv, ha, hm⟩
      · rename_i h1 h2
        exact (Memory.wf_cons a b _).2 ⟨hb, ab (by omega), ih hm⟩

/-- A write below a bound keeps the bound. -/
theorem Memory.below_write (n : Nat) (m : Memory) (k : Nat) (v : Byte) (h : m.below n = true) (hk : k < n) :
    (Memory.write m k v).below n = true := by
  simp only [Memory.below, List.all_eq_true, decide_eq_true_eq] at h ⊢
  intro c hc
  rcases Memory.mem_write m k v c hc with ⟨rfl, _⟩ | hc
  · exact hk
  · exact h c hc

/-- The memories after power-on are in canonical form. -/
theorem State.reset_memories_wf :
    State.reset.ram.wf = true ∧ State.reset.colorRam.wf = true ∧ State.reset.drive.ram.wf = true :=
  ⟨rfl, rfl, rfl⟩

end Sys2Proof.Machine
end

