-- ==== Sys2Proof/Laws/State.lean ====
section
/-! SUPPORT. What each named update of the state leaves alone, one lemma per field, so that no proof unfolds a record
update: the CPU's own steps, the lines, the devices' part and the end of a clock cycle, a stalled cycle, a read's wait. -/

namespace Sys2Proof.Machine

/-! ## The lines (only the lines change; RDY and the clock by their own operations) -/

@[simp] theorem Lines.pullIrq_rdy (src : Source) (l : Lines) : (l.pullIrq src).rdy = l.rdy := rfl
@[simp] theorem Lines.pullIrq_cycle (src : Source) (l : Lines) : (l.pullIrq src).cycle = l.cycle := rfl
@[simp] theorem Lines.pullIrq_rdyLineUp (src : Source) (l : Lines) : (l.pullIrq src).rdyLineUp = l.rdyLineUp := rfl
@[simp] theorem Lines.pullIrq_rdyLineDown (src : Source) (l : Lines) : (l.pullIrq src).rdyLineDown = l.rdyLineDown := rfl
@[simp] theorem Lines.releaseIrq_rdy (src : Source) (l : Lines) : (l.releaseIrq src).rdy = l.rdy := rfl
@[simp] theorem Lines.releaseIrq_cycle (src : Source) (l : Lines) : (l.releaseIrq src).cycle = l.cycle := rfl
@[simp] theorem Lines.releaseIrq_rdyLineUp (src : Source) (l : Lines) : (l.releaseIrq src).rdyLineUp = l.rdyLineUp := rfl
@[simp] theorem Lines.releaseIrq_rdyLineDown (src : Source) (l : Lines) : (l.releaseIrq src).rdyLineDown = l.rdyLineDown := rfl
@[simp] theorem Lines.pullNmi_rdy (src : Source) (l : Lines) : (l.pullNmi src).rdy = l.rdy := rfl
@[simp] theorem Lines.pullNmi_cycle (src : Source) (l : Lines) : (l.pullNmi src).cycle = l.cycle := rfl
@[simp] theorem Lines.pullNmi_rdyLineUp (src : Source) (l : Lines) : (l.pullNmi src).rdyLineUp = l.rdyLineUp := rfl
@[simp] theorem Lines.pullNmi_rdyLineDown (src : Source) (l : Lines) : (l.pullNmi src).rdyLineDown = l.rdyLineDown := rfl
@[simp] theorem Lines.releaseNmi_rdy (src : Source) (l : Lines) : (l.releaseNmi src).rdy = l.rdy := rfl
@[simp] theorem Lines.releaseNmi_cycle (src : Source) (l : Lines) : (l.releaseNmi src).cycle = l.cycle := rfl
@[simp] theorem Lines.releaseNmi_rdyLineUp (src : Source) (l : Lines) : (l.releaseNmi src).rdyLineUp = l.rdyLineUp := rfl
@[simp] theorem Lines.releaseNmi_rdyLineDown (src : Source) (l : Lines) : (l.releaseNmi src).rdyLineDown = l.rdyLineDown := rfl
@[simp] theorem Lines.driveIrq_rdy (src : Source) (on : Bool) (l : Lines) : (l.driveIrq src on).rdy = l.rdy := by cases on <;> rfl
@[simp] theorem Lines.driveIrq_cycle (src : Source) (on : Bool) (l : Lines) : (l.driveIrq src on).cycle = l.cycle := by cases on <;> rfl
@[simp] theorem Lines.driveNmi_rdy (src : Source) (on : Bool) (l : Lines) : (l.driveNmi src on).rdy = l.rdy := by cases on <;> rfl
@[simp] theorem Lines.driveNmi_cycle (src : Source) (on : Bool) (l : Lines) : (l.driveNmi src on).cycle = l.cycle := by cases on <;> rfl
@[simp] theorem Lines.driveIrq_nmiEdge (src : Source) (on : Bool) (l : Lines) : (l.driveIrq src on).nmiEdge = l.nmiEdge := by cases on <;> rfl
@[simp] theorem Lines.driveIrq_nmiLine (src : Source) (on : Bool) (l : Lines) : (l.driveIrq src on).nmiLine = l.nmiLine := by cases on <;> rfl
@[simp] theorem Lines.driveNmi_irqLevel (src : Source) (on : Bool) (l : Lines) : (l.driveNmi src on).irqLevel = l.irqLevel := by cases on <;> rfl
@[simp] theorem Lines.driveNmi_irqLine (src : Source) (on : Bool) (l : Lines) : (l.driveNmi src on).irqLine = l.irqLine := by cases on <;> rfl
@[simp] theorem Lines.setRdy_rdy (on : Bool) (l : Lines) : (l.setRdy on).rdy = on := rfl
@[simp] theorem Lines.setRdy_cycle (on : Bool) (l : Lines) : (l.setRdy on).cycle = l.cycle := rfl
@[simp] theorem Lines.housekeep_cycle (l : Lines) : l.housekeep.cycle = l.cycle + 1 := rfl
@[simp] theorem Lines.housekeep_rdy (l : Lines) : l.housekeep.rdy = l.rdy := rfl
@[simp] theorem Lines.housekeep_irqDelayed (l : Lines) : l.housekeep.irqLevel.delayed = l.irqLevel.cur := rfl
@[simp] theorem Lines.housekeep_nmiDelayed (l : Lines) : l.housekeep.nmiEdge.delayed = l.nmiEdge.cur := rfl

/-! ## CPU steps inside a row -/

@[simp] theorem Cpu.poll_a (c : Cpu) : c.poll.a = c.a := rfl
@[simp] theorem Cpu.poll_x (c : Cpu) : c.poll.x = c.x := rfl
@[simp] theorem Cpu.poll_y (c : Cpu) : c.poll.y = c.y := rfl
@[simp] theorem Cpu.poll_sp (c : Cpu) : c.poll.sp = c.sp := rfl
@[simp] theorem Cpu.poll_pc (c : Cpu) : c.poll.pc = c.pc := rfl
@[simp] theorem Cpu.poll_p (c : Cpu) : c.poll.p = c.p := rfl
@[simp] theorem Cpu.poll_pcFrozen (c : Cpu) : c.poll.pcFrozen = c.pcFrozen := rfl
@[simp] theorem Cpu.poll_adl (c : Cpu) : c.poll.adl = c.adl := rfl
@[simp] theorem Cpu.poll_adh (c : Cpu) : c.poll.adh = c.adh := rfl
@[simp] theorem Cpu.poll_idl (c : Cpu) : c.poll.idl = c.idl := rfl
@[simp] theorem Cpu.poll_d (c : Cpu) : c.poll.d = c.d := rfl
@[simp] theorem Cpu.poll_mip (c : Cpu) : c.poll.mip = c.mip := rfl
@[simp] theorem Cpu.poll_errorState (c : Cpu) : c.poll.errorState = c.errorState := rfl
@[simp] theorem Cpu.poll_jamFlag (c : Cpu) : c.poll.jamFlag = c.jamFlag := rfl
@[simp] theorem Cpu.poll_stalled (c : Cpu) : c.poll.stalled = c.stalled := rfl
@[simp] theorem Cpu.poll_lines (c : Cpu) : c.poll.lines = c.lines := rfl
@[simp] theorem Cpu.pollOr_a (c : Cpu) : c.pollOr.a = c.a := rfl
@[simp] theorem Cpu.pollOr_x (c : Cpu) : c.pollOr.x = c.x := rfl
@[simp] theorem Cpu.pollOr_y (c : Cpu) : c.pollOr.y = c.y := rfl
@[simp] theorem Cpu.pollOr_sp (c : Cpu) : c.pollOr.sp = c.sp := rfl
@[simp] theorem Cpu.pollOr_pc (c : Cpu) : c.pollOr.pc = c.pc := rfl
@[simp] theorem Cpu.pollOr_p (c : Cpu) : c.pollOr.p = c.p := rfl
@[simp] theorem Cpu.pollOr_pcFrozen (c : Cpu) : c.pollOr.pcFrozen = c.pcFrozen := rfl
@[simp] theorem Cpu.pollOr_adl (c : Cpu) : c.pollOr.adl = c.adl := rfl
@[simp] theorem Cpu.pollOr_adh (c : Cpu) : c.pollOr.adh = c.adh := rfl
@[simp] theorem Cpu.pollOr_idl (c : Cpu) : c.pollOr.idl = c.idl := rfl
@[simp] theorem Cpu.pollOr_d (c : Cpu) : c.pollOr.d = c.d := rfl
@[simp] theorem Cpu.pollOr_mip (c : Cpu) : c.pollOr.mip = c.mip := rfl
@[simp] theorem Cpu.pollOr_errorState (c : Cpu) : c.pollOr.errorState = c.errorState := rfl
@[simp] theorem Cpu.pollOr_jamFlag (c : Cpu) : c.pollOr.jamFlag = c.jamFlag := rfl
@[simp] theorem Cpu.pollOr_stalled (c : Cpu) : c.pollOr.stalled = c.stalled := rfl
@[simp] theorem Cpu.pollOr_lines (c : Cpu) : c.pollOr.lines = c.lines := rfl
@[simp] theorem Cpu.poll_doNmi (c : Cpu) : c.poll.doNmi = c.lines.nmiEdge.delayed := rfl
@[simp] theorem Cpu.poll_doIrq (c : Cpu) : c.poll.doIrq = (c.lines.irqLevel.delayed && !c.p.i) := rfl
@[simp] theorem Cpu.done_a (c : Cpu) : c.done.a = c.a := rfl
@[simp] theorem Cpu.done_x (c : Cpu) : c.done.x = c.x := rfl
@[simp] theorem Cpu.done_y (c : Cpu) : c.done.y = c.y := rfl
@[simp] theorem Cpu.done_sp (c : Cpu) : c.done.sp = c.sp := rfl
@[simp] theorem Cpu.done_pc (c : Cpu) : c.done.pc = c.pc := rfl
@[simp] theorem Cpu.done_p (c : Cpu) : c.done.p = c.p := rfl
@[simp] theorem Cpu.done_pcFrozen (c : Cpu) : c.done.pcFrozen = c.pcFrozen := rfl
@[simp] theorem Cpu.done_adl (c : Cpu) : c.done.adl = c.adl := rfl
@[simp] theorem Cpu.done_adh (c : Cpu) : c.done.adh = c.adh := rfl
@[simp] theorem Cpu.done_idl (c : Cpu) : c.done.idl = c.idl := rfl
@[simp] theorem Cpu.done_d (c : Cpu) : c.done.d = c.d := rfl
@[simp] theorem Cpu.done_doNmi (c : Cpu) : c.done.doNmi = c.doNmi := rfl
@[simp] theorem Cpu.done_doIrq (c : Cpu) : c.done.doIrq = c.doIrq := rfl
@[simp] theorem Cpu.done_errorState (c : Cpu) : c.done.errorState = c.errorState := rfl
@[simp] theorem Cpu.done_jamFlag (c : Cpu) : c.done.jamFlag = c.jamFlag := rfl
@[simp] theorem Cpu.done_stalled (c : Cpu) : c.done.stalled = c.stalled := rfl
@[simp] theorem Cpu.done_lines (c : Cpu) : c.done.lines = c.lines := rfl
@[simp] theorem Cpu.nextRow_a (c : Cpu) : c.nextRow.a = c.a := rfl
@[simp] theorem Cpu.nextRow_x (c : Cpu) : c.nextRow.x = c.x := rfl
@[simp] theorem Cpu.nextRow_y (c : Cpu) : c.nextRow.y = c.y := rfl
@[simp] theorem Cpu.nextRow_sp (c : Cpu) : c.nextRow.sp = c.sp := rfl
@[simp] theorem Cpu.nextRow_pc (c : Cpu) : c.nextRow.pc = c.pc := rfl
@[simp] theorem Cpu.nextRow_p (c : Cpu) : c.nextRow.p = c.p := rfl
@[simp] theorem Cpu.nextRow_pcFrozen (c : Cpu) : c.nextRow.pcFrozen = c.pcFrozen := rfl
@[simp] theorem Cpu.nextRow_adl (c : Cpu) : c.nextRow.adl = c.adl := rfl
@[simp] theorem Cpu.nextRow_adh (c : Cpu) : c.nextRow.adh = c.adh := rfl
@[simp] theorem Cpu.nextRow_idl (c : Cpu) : c.nextRow.idl = c.idl := rfl
@[simp] theorem Cpu.nextRow_d (c : Cpu) : c.nextRow.d = c.d := rfl
@[simp] theorem Cpu.nextRow_doNmi (c : Cpu) : c.nextRow.doNmi = c.doNmi := rfl
@[simp] theorem Cpu.nextRow_doIrq (c : Cpu) : c.nextRow.doIrq = c.doIrq := rfl
@[simp] theorem Cpu.nextRow_errorState (c : Cpu) : c.nextRow.errorState = c.errorState := rfl
@[simp] theorem Cpu.nextRow_jamFlag (c : Cpu) : c.nextRow.jamFlag = c.jamFlag := rfl
@[simp] theorem Cpu.nextRow_stalled (c : Cpu) : c.nextRow.stalled = c.stalled := rfl
@[simp] theorem Cpu.nextRow_lines (c : Cpu) : c.nextRow.lines = c.lines := rfl
@[simp] theorem Cpu.done_mip (c : Cpu) : c.done.mip = .fetch := rfl
@[simp] theorem Cpu.nextRow_mip (c : Cpu) : c.nextRow.mip = c.mip.next := rfl

/-! ### `syncPins` -/

@[simp] theorem State.syncPins_cfg (s : State) : s.syncPins.cfg = s.cfg := rfl
@[simp] theorem State.syncPins_port (s : State) : s.syncPins.port = s.port := rfl
@[simp] theorem State.syncPins_ram (s : State) : s.syncPins.ram = s.ram := rfl
@[simp] theorem State.syncPins_colorRam (s : State) : s.syncPins.colorRam = s.colorRam := rfl
@[simp] theorem State.syncPins_rom (s : State) : s.syncPins.rom = s.rom := rfl
@[simp] theorem State.syncPins_cart (s : State) : s.syncPins.cart = s.cart := rfl
@[simp] theorem State.syncPins_inputs (s : State) : s.syncPins.inputs = s.inputs := rfl
@[simp] theorem State.syncPins_cpu_a (s : State) : s.syncPins.cpu.a = s.cpu.a := rfl
@[simp] theorem State.syncPins_cpu_x (s : State) : s.syncPins.cpu.x = s.cpu.x := rfl
@[simp] theorem State.syncPins_cpu_y (s : State) : s.syncPins.cpu.y = s.cpu.y := rfl
@[simp] theorem State.syncPins_cpu_sp (s : State) : s.syncPins.cpu.sp = s.cpu.sp := rfl
@[simp] theorem State.syncPins_cpu_pc (s : State) : s.syncPins.cpu.pc = s.cpu.pc := rfl
@[simp] theorem State.syncPins_cpu_p (s : State) : s.syncPins.cpu.p = s.cpu.p := rfl
@[simp] theorem State.syncPins_cpu_pcFrozen (s : State) : s.syncPins.cpu.pcFrozen = s.cpu.pcFrozen := rfl
@[simp] theorem State.syncPins_cpu_adl (s : State) : s.syncPins.cpu.adl = s.cpu.adl := rfl
@[simp] theorem State.syncPins_cpu_adh (s : State) : s.syncPins.cpu.adh = s.cpu.adh := rfl
@[simp] theorem State.syncPins_cpu_idl (s : State) : s.syncPins.cpu.idl = s.cpu.idl := rfl
@[simp] theorem State.syncPins_cpu_d (s : State) : s.syncPins.cpu.d = s.cpu.d := rfl
@[simp] theorem State.syncPins_cpu_mip (s : State) : s.syncPins.cpu.mip = s.cpu.mip := rfl
@[simp] theorem State.syncPins_cpu_doNmi (s : State) : s.syncPins.cpu.doNmi = s.cpu.doNmi := rfl
@[simp] theorem State.syncPins_cpu_doIrq (s : State) : s.syncPins.cpu.doIrq = s.cpu.doIrq := rfl
@[simp] theorem State.syncPins_cpu_errorState (s : State) : s.syncPins.cpu.errorState = s.cpu.errorState := rfl
@[simp] theorem State.syncPins_cpu_jamFlag (s : State) : s.syncPins.cpu.jamFlag = s.cpu.jamFlag := rfl
@[simp] theorem State.syncPins_cpu_stalled (s : State) : s.syncPins.cpu.stalled = s.cpu.stalled := rfl

/-! ### `vicCycle` -/

@[simp] theorem State.vicCycle_cfg (s : State) : s.vicCycle.cfg = s.cfg := rfl
@[simp] theorem State.vicCycle_port (s : State) : s.vicCycle.port = s.port := rfl
@[simp] theorem State.vicCycle_ram (s : State) : s.vicCycle.ram = s.ram := rfl
@[simp] theorem State.vicCycle_colorRam (s : State) : s.vicCycle.colorRam = s.colorRam := rfl
@[simp] theorem State.vicCycle_rom (s : State) : s.vicCycle.rom = s.rom := rfl
@[simp] theorem State.vicCycle_inputs (s : State) : s.vicCycle.inputs = s.inputs := rfl
@[simp] theorem State.vicCycle_cpu_a (s : State) : s.vicCycle.cpu.a = s.cpu.a := rfl
@[simp] theorem State.vicCycle_cpu_x (s : State) : s.vicCycle.cpu.x = s.cpu.x := rfl
@[simp] theorem State.vicCycle_cpu_y (s : State) : s.vicCycle.cpu.y = s.cpu.y := rfl
@[simp] theorem State.vicCycle_cpu_sp (s : State) : s.vicCycle.cpu.sp = s.cpu.sp := rfl
@[simp] theorem State.vicCycle_cpu_pc (s : State) : s.vicCycle.cpu.pc = s.cpu.pc := rfl
@[simp] theorem State.vicCycle_cpu_p (s : State) : s.vicCycle.cpu.p = s.cpu.p := rfl
@[simp] theorem State.vicCycle_cpu_pcFrozen (s : State) : s.vicCycle.cpu.pcFrozen = s.cpu.pcFrozen := rfl
@[simp] theorem State.vicCycle_cpu_adl (s : State) : s.vicCycle.cpu.adl = s.cpu.adl := rfl
@[simp] theorem State.vicCycle_cpu_adh (s : State) : s.vicCycle.cpu.adh = s.cpu.adh := rfl
@[simp] theorem State.vicCycle_cpu_idl (s : State) : s.vicCycle.cpu.idl = s.cpu.idl := rfl
@[simp] theorem State.vicCycle_cpu_d (s : State) : s.vicCycle.cpu.d = s.cpu.d := rfl
@[simp] theorem State.vicCycle_cpu_mip (s : State) : s.vicCycle.cpu.mip = s.cpu.mip := rfl
@[simp] theorem State.vicCycle_cpu_doNmi (s : State) : s.vicCycle.cpu.doNmi = s.cpu.doNmi := rfl
@[simp] theorem State.vicCycle_cpu_doIrq (s : State) : s.vicCycle.cpu.doIrq = s.cpu.doIrq := rfl
@[simp] theorem State.vicCycle_cpu_errorState (s : State) : s.vicCycle.cpu.errorState = s.cpu.errorState := rfl
@[simp] theorem State.vicCycle_cpu_jamFlag (s : State) : s.vicCycle.cpu.jamFlag = s.cpu.jamFlag := rfl
@[simp] theorem State.vicCycle_cpu_stalled (s : State) : s.vicCycle.cpu.stalled = s.cpu.stalled := rfl

/-! ### `cia1Cycle` -/

@[simp] theorem State.cia1Cycle_cfg (s : State) : s.cia1Cycle.cfg = s.cfg := rfl
@[simp] theorem State.cia1Cycle_port (s : State) : s.cia1Cycle.port = s.port := rfl
@[simp] theorem State.cia1Cycle_ram (s : State) : s.cia1Cycle.ram = s.ram := rfl
@[simp] theorem State.cia1Cycle_colorRam (s : State) : s.cia1Cycle.colorRam = s.colorRam := rfl
@[simp] theorem State.cia1Cycle_rom (s : State) : s.cia1Cycle.rom = s.rom := rfl
@[simp] theorem State.cia1Cycle_cart (s : State) : s.cia1Cycle.cart = s.cart := rfl
@[simp] theorem State.cia1Cycle_inputs (s : State) : s.cia1Cycle.inputs = s.inputs := rfl
@[simp] theorem State.cia1Cycle_cpu_a (s : State) : s.cia1Cycle.cpu.a = s.cpu.a := rfl
@[simp] theorem State.cia1Cycle_cpu_x (s : State) : s.cia1Cycle.cpu.x = s.cpu.x := rfl
@[simp] theorem State.cia1Cycle_cpu_y (s : State) : s.cia1Cycle.cpu.y = s.cpu.y := rfl
@[simp] theorem State.cia1Cycle_cpu_sp (s : State) : s.cia1Cycle.cpu.sp = s.cpu.sp := rfl
@[simp] theorem State.cia1Cycle_cpu_pc (s : State) : s.cia1Cycle.cpu.pc = s.cpu.pc := rfl
@[simp] theorem State.cia1Cycle_cpu_p (s : State) : s.cia1Cycle.cpu.p = s.cpu.p := rfl
@[simp] theorem State.cia1Cycle_cpu_pcFrozen (s : State) : s.cia1Cycle.cpu.pcFrozen = s.cpu.pcFrozen := rfl
@[simp] theorem State.cia1Cycle_cpu_adl (s : State) : s.cia1Cycle.cpu.adl = s.cpu.adl := rfl
@[simp] theorem State.cia1Cycle_cpu_adh (s : State) : s.cia1Cycle.cpu.adh = s.cpu.adh := rfl
@[simp] theorem State.cia1Cycle_cpu_idl (s : State) : s.cia1Cycle.cpu.idl = s.cpu.idl := rfl
@[simp] theorem State.cia1Cycle_cpu_d (s : State) : s.cia1Cycle.cpu.d = s.cpu.d := rfl
@[simp] theorem State.cia1Cycle_cpu_mip (s : State) : s.cia1Cycle.cpu.mip = s.cpu.mip := rfl
@[simp] theorem State.cia1Cycle_cpu_doNmi (s : State) : s.cia1Cycle.cpu.doNmi = s.cpu.doNmi := rfl
@[simp] theorem State.cia1Cycle_cpu_doIrq (s : State) : s.cia1Cycle.cpu.doIrq = s.cpu.doIrq := rfl
@[simp] theorem State.cia1Cycle_cpu_errorState (s : State) : s.cia1Cycle.cpu.errorState = s.cpu.errorState := rfl
@[simp] theorem State.cia1Cycle_cpu_jamFlag (s : State) : s.cia1Cycle.cpu.jamFlag = s.cpu.jamFlag := rfl
@[simp] theorem State.cia1Cycle_cpu_stalled (s : State) : s.cia1Cycle.cpu.stalled = s.cpu.stalled := rfl

/-! ### `cia2Cycle` -/

@[simp] theorem State.cia2Cycle_cfg (s : State) : s.cia2Cycle.cfg = s.cfg := rfl
@[simp] theorem State.cia2Cycle_port (s : State) : s.cia2Cycle.port = s.port := rfl
@[simp] theorem State.cia2Cycle_ram (s : State) : s.cia2Cycle.ram = s.ram := rfl
@[simp] theorem State.cia2Cycle_colorRam (s : State) : s.cia2Cycle.colorRam = s.colorRam := rfl
@[simp] theorem State.cia2Cycle_rom (s : State) : s.cia2Cycle.rom = s.rom := rfl
@[simp] theorem State.cia2Cycle_cart (s : State) : s.cia2Cycle.cart = s.cart := rfl
@[simp] theorem State.cia2Cycle_inputs (s : State) : s.cia2Cycle.inputs = s.inputs := rfl
@[simp] theorem State.cia2Cycle_cpu_a (s : State) : s.cia2Cycle.cpu.a = s.cpu.a := rfl
@[simp] theorem State.cia2Cycle_cpu_x (s : State) : s.cia2Cycle.cpu.x = s.cpu.x := rfl
@[simp] theorem State.cia2Cycle_cpu_y (s : State) : s.cia2Cycle.cpu.y = s.cpu.y := rfl
@[simp] theorem State.cia2Cycle_cpu_sp (s : State) : s.cia2Cycle.cpu.sp = s.cpu.sp := rfl
@[simp] theorem State.cia2Cycle_cpu_pc (s : State) : s.cia2Cycle.cpu.pc = s.cpu.pc := rfl
@[simp] theorem State.cia2Cycle_cpu_p (s : State) : s.cia2Cycle.cpu.p = s.cpu.p := rfl
@[simp] theorem State.cia2Cycle_cpu_pcFrozen (s : State) : s.cia2Cycle.cpu.pcFrozen = s.cpu.pcFrozen := rfl
@[simp] theorem State.cia2Cycle_cpu_adl (s : State) : s.cia2Cycle.cpu.adl = s.cpu.adl := rfl
@[simp] theorem State.cia2Cycle_cpu_adh (s : State) : s.cia2Cycle.cpu.adh = s.cpu.adh := rfl
@[simp] theorem State.cia2Cycle_cpu_idl (s : State) : s.cia2Cycle.cpu.idl = s.cpu.idl := rfl
@[simp] theorem State.cia2Cycle_cpu_d (s : State) : s.cia2Cycle.cpu.d = s.cpu.d := rfl
@[simp] theorem State.cia2Cycle_cpu_mip (s : State) : s.cia2Cycle.cpu.mip = s.cpu.mip := rfl
@[simp] theorem State.cia2Cycle_cpu_doNmi (s : State) : s.cia2Cycle.cpu.doNmi = s.cpu.doNmi := rfl
@[simp] theorem State.cia2Cycle_cpu_doIrq (s : State) : s.cia2Cycle.cpu.doIrq = s.cpu.doIrq := rfl
@[simp] theorem State.cia2Cycle_cpu_errorState (s : State) : s.cia2Cycle.cpu.errorState = s.cpu.errorState := rfl
@[simp] theorem State.cia2Cycle_cpu_jamFlag (s : State) : s.cia2Cycle.cpu.jamFlag = s.cpu.jamFlag := rfl
@[simp] theorem State.cia2Cycle_cpu_stalled (s : State) : s.cia2Cycle.cpu.stalled = s.cpu.stalled := rfl

/-! ### `rasterEnd` -/

@[simp] theorem State.rasterEnd_cfg (s : State) : s.rasterEnd.cfg = s.cfg := rfl
@[simp] theorem State.rasterEnd_port (s : State) : s.rasterEnd.port = s.port := rfl
@[simp] theorem State.rasterEnd_ram (s : State) : s.rasterEnd.ram = s.ram := rfl
@[simp] theorem State.rasterEnd_colorRam (s : State) : s.rasterEnd.colorRam = s.colorRam := rfl
@[simp] theorem State.rasterEnd_rom (s : State) : s.rasterEnd.rom = s.rom := rfl
@[simp] theorem State.rasterEnd_cart (s : State) : s.rasterEnd.cart = s.cart := rfl
@[simp] theorem State.rasterEnd_inputs (s : State) : s.rasterEnd.inputs = s.inputs := rfl
@[simp] theorem State.rasterEnd_cpu_a (s : State) : s.rasterEnd.cpu.a = s.cpu.a := rfl
@[simp] theorem State.rasterEnd_cpu_x (s : State) : s.rasterEnd.cpu.x = s.cpu.x := rfl
@[simp] theorem State.rasterEnd_cpu_y (s : State) : s.rasterEnd.cpu.y = s.cpu.y := rfl
@[simp] theorem State.rasterEnd_cpu_sp (s : State) : s.rasterEnd.cpu.sp = s.cpu.sp := rfl
@[simp] theorem State.rasterEnd_cpu_pc (s : State) : s.rasterEnd.cpu.pc = s.cpu.pc := rfl
@[simp] theorem State.rasterEnd_cpu_p (s : State) : s.rasterEnd.cpu.p = s.cpu.p := rfl
@[simp] theorem State.rasterEnd_cpu_pcFrozen (s : State) : s.rasterEnd.cpu.pcFrozen = s.cpu.pcFrozen := rfl
@[simp] theorem State.rasterEnd_cpu_adl (s : State) : s.rasterEnd.cpu.adl = s.cpu.adl := rfl
@[simp] theorem State.rasterEnd_cpu_adh (s : State) : s.rasterEnd.cpu.adh = s.cpu.adh := rfl
@[simp] theorem State.rasterEnd_cpu_idl (s : State) : s.rasterEnd.cpu.idl = s.cpu.idl := rfl
@[simp] theorem State.rasterEnd_cpu_d (s : State) : s.rasterEnd.cpu.d = s.cpu.d := rfl
@[simp] theorem State.rasterEnd_cpu_mip (s : State) : s.rasterEnd.cpu.mip = s.cpu.mip := rfl
@[simp] theorem State.rasterEnd_cpu_doNmi (s : State) : s.rasterEnd.cpu.doNmi = s.cpu.doNmi := rfl
@[simp] theorem State.rasterEnd_cpu_doIrq (s : State) : s.rasterEnd.cpu.doIrq = s.cpu.doIrq := rfl
@[simp] theorem State.rasterEnd_cpu_errorState (s : State) : s.rasterEnd.cpu.errorState = s.cpu.errorState := rfl
@[simp] theorem State.rasterEnd_cpu_jamFlag (s : State) : s.rasterEnd.cpu.jamFlag = s.cpu.jamFlag := rfl
@[simp] theorem State.rasterEnd_cpu_stalled (s : State) : s.rasterEnd.cpu.stalled = s.cpu.stalled := rfl

/-! ### `driveCycle` -/

@[simp] theorem State.driveCycle_cfg (s : State) : s.driveCycle.cfg = s.cfg := rfl
@[simp] theorem State.driveCycle_port (s : State) : s.driveCycle.port = s.port := rfl
@[simp] theorem State.driveCycle_ram (s : State) : s.driveCycle.ram = s.ram := rfl
@[simp] theorem State.driveCycle_colorRam (s : State) : s.driveCycle.colorRam = s.colorRam := rfl
@[simp] theorem State.driveCycle_rom (s : State) : s.driveCycle.rom = s.rom := rfl
@[simp] theorem State.driveCycle_cart (s : State) : s.driveCycle.cart = s.cart := rfl
@[simp] theorem State.driveCycle_inputs (s : State) : s.driveCycle.inputs = s.inputs := rfl
@[simp] theorem State.driveCycle_cpu_a (s : State) : s.driveCycle.cpu.a = s.cpu.a := rfl
@[simp] theorem State.driveCycle_cpu_x (s : State) : s.driveCycle.cpu.x = s.cpu.x := rfl
@[simp] theorem State.driveCycle_cpu_y (s : State) : s.driveCycle.cpu.y = s.cpu.y := rfl
@[simp] theorem State.driveCycle_cpu_sp (s : State) : s.driveCycle.cpu.sp = s.cpu.sp := rfl
@[simp] theorem State.driveCycle_cpu_pc (s : State) : s.driveCycle.cpu.pc = s.cpu.pc := rfl
@[simp] theorem State.driveCycle_cpu_p (s : State) : s.driveCycle.cpu.p = s.cpu.p := rfl
@[simp] theorem State.driveCycle_cpu_pcFrozen (s : State) : s.driveCycle.cpu.pcFrozen = s.cpu.pcFrozen := rfl
@[simp] theorem State.driveCycle_cpu_adl (s : State) : s.driveCycle.cpu.adl = s.cpu.adl := rfl
@[simp] theorem State.driveCycle_cpu_adh (s : State) : s.driveCycle.cpu.adh = s.cpu.adh := rfl
@[simp] theorem State.driveCycle_cpu_idl (s : State) : s.driveCycle.cpu.idl = s.cpu.idl := rfl
@[simp] theorem State.driveCycle_cpu_d (s : State) : s.driveCycle.cpu.d = s.cpu.d := rfl
@[simp] theorem State.driveCycle_cpu_mip (s : State) : s.driveCycle.cpu.mip = s.cpu.mip := rfl
@[simp] theorem State.driveCycle_cpu_doNmi (s : State) : s.driveCycle.cpu.doNmi = s.cpu.doNmi := rfl
@[simp] theorem State.driveCycle_cpu_doIrq (s : State) : s.driveCycle.cpu.doIrq = s.cpu.doIrq := rfl
@[simp] theorem State.driveCycle_cpu_errorState (s : State) : s.driveCycle.cpu.errorState = s.cpu.errorState := rfl
@[simp] theorem State.driveCycle_cpu_jamFlag (s : State) : s.driveCycle.cpu.jamFlag = s.cpu.jamFlag := rfl
@[simp] theorem State.driveCycle_cpu_stalled (s : State) : s.driveCycle.cpu.stalled = s.cpu.stalled := rfl

/-! ### `devices` -/

@[simp] theorem State.devices_cfg (s : State) : s.devices.cfg = s.cfg := by simp [State.devices]
@[simp] theorem State.devices_port (s : State) : s.devices.port = s.port := by simp [State.devices]
@[simp] theorem State.devices_ram (s : State) : s.devices.ram = s.ram := by simp [State.devices]
@[simp] theorem State.devices_colorRam (s : State) : s.devices.colorRam = s.colorRam := by simp [State.devices]
@[simp] theorem State.devices_rom (s : State) : s.devices.rom = s.rom := by simp [State.devices]

/-- The cartridge after the devices' part of a cycle: the VIC-II's fetch alone can have been an access of it. -/
theorem State.devices_cart (s : State) : s.devices.cart = s.syncPins.vicCycle.cart := by
  simp [State.devices]

theorem State.vicCycle_cart (s : State) : s.vicCycle.cart = ({ s with draws := s.draws + 3 } : State).vicWhole.cart := by
  rw [State.vicCycle]

/-- A cartridge that does not switch, or outside ultimax, is left alone by a fetch of the VIC-II. -/
theorem State.vicFetch_of (s : State) (h : s.cart.switching = false ∨ s.bankLines.ultimax = false) (a : Nat) :
    s.vicFetch a = s := by
  unfold State.vicFetch State.cartAccess
  rcases h with h | h <;> simp [h]

/-- And by the fetches of a whole cycle. -/
theorem State.vicWhole_of (s : State) (h : s.cart.switching = false ∨ s.bankLines.ultimax = false) : s.vicWhole = s := by
  have key : ∀ l : List Nat, l.foldl State.vicFetch s = s := fun l => by
    induction l with
    | nil => rfl
    | cons a l ih => rw [List.foldl_cons, s.vicFetch_of h, ih]
  simp only [State.vicWhole, State.vicHalf, key]

/-- A cartridge that does not switch, or outside ultimax, is left alone by the devices. -/
theorem State.devices_cart_of (s : State) (h : s.cart.switching = false ∨ s.bankLines.ultimax = false) :
    s.devices.cart = s.cart := by
  rw [State.devices_cart, State.vicCycle_cart, State.vicWhole_of _ (by exact h)]
  rfl

@[simp] theorem State.devices_inputs (s : State) : s.devices.inputs = s.inputs := by simp [State.devices]
@[simp] theorem State.devices_cpu_a (s : State) : s.devices.cpu.a = s.cpu.a := by simp [State.devices]
@[simp] theorem State.devices_cpu_x (s : State) : s.devices.cpu.x = s.cpu.x := by simp [State.devices]
@[simp] theorem State.devices_cpu_y (s : State) : s.devices.cpu.y = s.cpu.y := by simp [State.devices]
@[simp] theorem State.devices_cpu_sp (s : State) : s.devices.cpu.sp = s.cpu.sp := by simp [State.devices]
@[simp] theorem State.devices_cpu_pc (s : State) : s.devices.cpu.pc = s.cpu.pc := by simp [State.devices]
@[simp] theorem State.devices_cpu_p (s : State) : s.devices.cpu.p = s.cpu.p := by simp [State.devices]
@[simp] theorem State.devices_cpu_pcFrozen (s : State) : s.devices.cpu.pcFrozen = s.cpu.pcFrozen := by simp [State.devices]
@[simp] theorem State.devices_cpu_adl (s : State) : s.devices.cpu.adl = s.cpu.adl := by simp [State.devices]
@[simp] theorem State.devices_cpu_adh (s : State) : s.devices.cpu.adh = s.cpu.adh := by simp [State.devices]
@[simp] theorem State.devices_cpu_idl (s : State) : s.devices.cpu.idl = s.cpu.idl := by simp [State.devices]
@[simp] theorem State.devices_cpu_d (s : State) : s.devices.cpu.d = s.cpu.d := by simp [State.devices]
@[simp] theorem State.devices_cpu_mip (s : State) : s.devices.cpu.mip = s.cpu.mip := by simp [State.devices]
@[simp] theorem State.devices_cpu_doNmi (s : State) : s.devices.cpu.doNmi = s.cpu.doNmi := by simp [State.devices]
@[simp] theorem State.devices_cpu_doIrq (s : State) : s.devices.cpu.doIrq = s.cpu.doIrq := by simp [State.devices]
@[simp] theorem State.devices_cpu_errorState (s : State) : s.devices.cpu.errorState = s.cpu.errorState := by simp [State.devices]
@[simp] theorem State.devices_cpu_jamFlag (s : State) : s.devices.cpu.jamFlag = s.cpu.jamFlag := by simp [State.devices]
@[simp] theorem State.devices_cpu_stalled (s : State) : s.devices.cpu.stalled = s.cpu.stalled := by simp [State.devices]

/-! ### `finish` -/

@[simp] theorem State.finish_cfg (s : State) : s.finish.cfg = s.cfg := by simp [State.finish]
@[simp] theorem State.finish_port (s : State) : s.finish.port = s.port := by simp [State.finish]
@[simp] theorem State.finish_ram (s : State) : s.finish.ram = s.ram := by simp [State.finish]
@[simp] theorem State.finish_colorRam (s : State) : s.finish.colorRam = s.colorRam := by simp [State.finish]
@[simp] theorem State.finish_rom (s : State) : s.finish.rom = s.rom := by simp [State.finish]
@[simp] theorem State.finish_cart (s : State) : s.finish.cart = s.cart := by simp [State.finish]
@[simp] theorem State.finish_inputs (s : State) : s.finish.inputs = s.inputs := by simp [State.finish]
@[simp] theorem State.finish_cpu_a (s : State) : s.finish.cpu.a = s.cpu.a := by simp [State.finish]
@[simp] theorem State.finish_cpu_x (s : State) : s.finish.cpu.x = s.cpu.x := by simp [State.finish]
@[simp] theorem State.finish_cpu_y (s : State) : s.finish.cpu.y = s.cpu.y := by simp [State.finish]
@[simp] theorem State.finish_cpu_sp (s : State) : s.finish.cpu.sp = s.cpu.sp := by simp [State.finish]
@[simp] theorem State.finish_cpu_pc (s : State) : s.finish.cpu.pc = s.cpu.pc := by simp [State.finish]
@[simp] theorem State.finish_cpu_p (s : State) : s.finish.cpu.p = s.cpu.p := by simp [State.finish]
@[simp] theorem State.finish_cpu_pcFrozen (s : State) : s.finish.cpu.pcFrozen = s.cpu.pcFrozen := by simp [State.finish]
@[simp] theorem State.finish_cpu_adl (s : State) : s.finish.cpu.adl = s.cpu.adl := by simp [State.finish]
@[simp] theorem State.finish_cpu_adh (s : State) : s.finish.cpu.adh = s.cpu.adh := by simp [State.finish]
@[simp] theorem State.finish_cpu_idl (s : State) : s.finish.cpu.idl = s.cpu.idl := by simp [State.finish]
@[simp] theorem State.finish_cpu_d (s : State) : s.finish.cpu.d = s.cpu.d := by simp [State.finish]
@[simp] theorem State.finish_cpu_mip (s : State) : s.finish.cpu.mip = s.cpu.mip := by simp [State.finish]
@[simp] theorem State.finish_cpu_doNmi (s : State) : s.finish.cpu.doNmi = s.cpu.doNmi := by simp [State.finish]
@[simp] theorem State.finish_cpu_doIrq (s : State) : s.finish.cpu.doIrq = s.cpu.doIrq := by simp [State.finish]
@[simp] theorem State.finish_cpu_errorState (s : State) : s.finish.cpu.errorState = s.cpu.errorState := by simp [State.finish]
@[simp] theorem State.finish_cpu_jamFlag (s : State) : s.finish.cpu.jamFlag = s.cpu.jamFlag := by simp [State.finish]
@[simp] theorem State.finish_cpu_stalled (s : State) : s.finish.cpu.stalled = s.cpu.stalled := by simp [State.finish]

/-! ### `stallCycle` -/

@[simp] theorem State.stallCycle_cfg (s : State) : s.stallCycle.cfg = s.cfg := by simp [State.stallCycle]
@[simp] theorem State.stallCycle_port (s : State) : s.stallCycle.port = s.port := by simp [State.stallCycle]
@[simp] theorem State.stallCycle_ram (s : State) : s.stallCycle.ram = s.ram := by simp [State.stallCycle]
@[simp] theorem State.stallCycle_colorRam (s : State) : s.stallCycle.colorRam = s.colorRam := by simp [State.stallCycle]
@[simp] theorem State.stallCycle_rom (s : State) : s.stallCycle.rom = s.rom := by simp [State.stallCycle]
@[simp] theorem State.stallCycle_cart (s : State) : s.stallCycle.cart = s.cart := by simp [State.stallCycle]
@[simp] theorem State.stallCycle_inputs (s : State) : s.stallCycle.inputs = s.inputs := by simp [State.stallCycle]
@[simp] theorem State.stallCycle_cpu_a (s : State) : s.stallCycle.cpu.a = s.cpu.a := by simp [State.stallCycle]
@[simp] theorem State.stallCycle_cpu_x (s : State) : s.stallCycle.cpu.x = s.cpu.x := by simp [State.stallCycle]
@[simp] theorem State.stallCycle_cpu_y (s : State) : s.stallCycle.cpu.y = s.cpu.y := by simp [State.stallCycle]
@[simp] theorem State.stallCycle_cpu_sp (s : State) : s.stallCycle.cpu.sp = s.cpu.sp := by simp [State.stallCycle]
@[simp] theorem State.stallCycle_cpu_pc (s : State) : s.stallCycle.cpu.pc = s.cpu.pc := by simp [State.stallCycle]
@[simp] theorem State.stallCycle_cpu_p (s : State) : s.stallCycle.cpu.p = s.cpu.p := by simp [State.stallCycle]
@[simp] theorem State.stallCycle_cpu_pcFrozen (s : State) : s.stallCycle.cpu.pcFrozen = s.cpu.pcFrozen := by simp [State.stallCycle]
@[simp] theorem State.stallCycle_cpu_adl (s : State) : s.stallCycle.cpu.adl = s.cpu.adl := by simp [State.stallCycle]
@[simp] theorem State.stallCycle_cpu_adh (s : State) : s.stallCycle.cpu.adh = s.cpu.adh := by simp [State.stallCycle]
@[simp] theorem State.stallCycle_cpu_idl (s : State) : s.stallCycle.cpu.idl = s.cpu.idl := by simp [State.stallCycle]
@[simp] theorem State.stallCycle_cpu_d (s : State) : s.stallCycle.cpu.d = s.cpu.d := by simp [State.stallCycle]
@[simp] theorem State.stallCycle_cpu_mip (s : State) : s.stallCycle.cpu.mip = s.cpu.mip := by simp [State.stallCycle]
@[simp] theorem State.stallCycle_cpu_doNmi (s : State) : s.stallCycle.cpu.doNmi = s.cpu.doNmi := by simp [State.stallCycle]
@[simp] theorem State.stallCycle_cpu_doIrq (s : State) : s.stallCycle.cpu.doIrq = s.cpu.doIrq := by simp [State.stallCycle]
@[simp] theorem State.stallCycle_cpu_errorState (s : State) : s.stallCycle.cpu.errorState = s.cpu.errorState := by simp [State.stallCycle]
@[simp] theorem State.stallCycle_cpu_jamFlag (s : State) : s.stallCycle.cpu.jamFlag = s.cpu.jamFlag := by simp [State.stallCycle]

@[simp] theorem State.driveCycle_elapsed (s : State) : s.driveCycle.elapsed = s.elapsed + s.cfg.cycleDuration := rfl
@[simp] theorem State.rasterEnd_elapsed (s : State) : s.rasterEnd.elapsed = s.elapsed := rfl
@[simp] theorem State.driveCycle_draws (s : State) : s.driveCycle.draws = s.draws := rfl
@[simp] theorem State.rasterEnd_draws (s : State) : s.rasterEnd.draws = s.draws := rfl
@[simp] theorem State.driveCycle_lines (s : State) : s.driveCycle.cpu.lines = s.cpu.lines := rfl
@[simp] theorem State.rasterEnd_lines (s : State) : s.rasterEnd.cpu.lines = s.cpu.lines := rfl
@[simp] theorem State.finish_elapsed (s : State) : s.finish.elapsed = s.elapsed + s.cfg.cycleDuration := by simp [State.finish]
@[simp] theorem State.finish_draws (s : State) : s.finish.draws = s.draws := by simp [State.finish]
@[simp] theorem State.finish_lines (s : State) : s.finish.cpu.lines = s.cpu.lines.housekeep := by simp [State.finish]
@[simp] theorem State.stallCycle_lines (s : State) : s.stallCycle.cpu.lines = s.cpu.lines.housekeep := by simp [State.stallCycle]

/-! The clock cycle counter through the devices' part: only housekeeping counts. -/

@[simp] theorem State.syncPins_cycle (s : State) : s.syncPins.cpu.lines.cycle = s.cpu.lines.cycle := by simp [State.syncPins]
@[simp] theorem State.vicCycle_cycle (s : State) : s.vicCycle.cpu.lines.cycle = s.cpu.lines.cycle := by simp [State.vicCycle]
@[simp] theorem State.cia1Cycle_cycle (s : State) : s.cia1Cycle.cpu.lines.cycle = s.cpu.lines.cycle := by simp [State.cia1Cycle]
@[simp] theorem State.cia2Cycle_cycle (s : State) : s.cia2Cycle.cpu.lines.cycle = s.cpu.lines.cycle := by simp [State.cia2Cycle]
@[simp] theorem State.devices_cycle (s : State) : s.devices.cpu.lines.cycle = s.cpu.lines.cycle := by simp [State.devices]

/-! The devices and the time at the end of a cycle. -/

@[simp] theorem State.syncPins_elapsed (s : State) : s.syncPins.elapsed = s.elapsed := rfl
@[simp] theorem State.syncPins_drive (s : State) : s.syncPins.drive = s.drive := rfl
@[simp] theorem State.vicCycle_elapsed (s : State) : s.vicCycle.elapsed = s.elapsed := rfl
@[simp] theorem State.vicCycle_drive (s : State) : s.vicCycle.drive = s.drive := rfl
@[simp] theorem State.cia1Cycle_elapsed (s : State) : s.cia1Cycle.elapsed = s.elapsed := rfl
@[simp] theorem State.cia1Cycle_drive (s : State) : s.cia1Cycle.drive = s.drive := rfl
@[simp] theorem State.cia2Cycle_elapsed (s : State) : s.cia2Cycle.elapsed = s.elapsed := rfl
@[simp] theorem State.cia2Cycle_drive (s : State) : s.cia2Cycle.drive = s.drive := rfl
@[simp] theorem State.devices_elapsed (s : State) : s.devices.elapsed = s.elapsed := by simp [State.devices]
@[simp] theorem State.devices_drive (s : State) : s.devices.drive = s.drive := by simp [State.devices]
@[simp] theorem State.finish_vic (s : State) : s.finish.vic = s.vic.advance s.cfg.vicModel := rfl
@[simp] theorem State.finish_drive (s : State) :
    s.finish.drive = s.drive.run s.cfg s.iecPulls (s.elapsed + s.cfg.cycleDuration) := rfl
@[simp] theorem State.finish_cia1 (s : State) :
    s.finish.cia1 = { s.cia1 with todTick := s.cia1.todTick || s.vic.frameEnds s.cfg.vicModel } := rfl
@[simp] theorem State.finish_cia2 (s : State) :
    s.finish.cia2 = { s.cia2 with todTick := s.cia2.todTick || s.vic.frameEnds s.cfg.vicModel } := rfl
@[simp] theorem State.finish_cpu (s : State) : s.finish.cpu = { s.cpu with lines := s.cpu.lines.housekeep } := rfl
@[simp] theorem State.stallCycle_vic (s : State) : s.stallCycle.vic = s.vic.advance s.cfg.vicModel := rfl
@[simp] theorem State.stallCycle_drive (s : State) :
    s.stallCycle.drive = s.drive.run s.cfg s.iecPulls (s.elapsed + s.cfg.cycleDuration) := rfl
@[simp] theorem State.stallCycle_cia1 (s : State) :
    s.stallCycle.cia1 = { s.cia1 with todTick := s.cia1.todTick || s.vic.frameEnds s.cfg.vicModel } := rfl
@[simp] theorem State.stallCycle_cia2 (s : State) :
    s.stallCycle.cia2 = { s.cia2 with todTick := s.cia2.todTick || s.vic.frameEnds s.cfg.vicModel } := rfl

end Sys2Proof.Machine
end

