-- ==== Sys2Proof/Laws/Bus.lean ====
section
/-! SUPPORT. What one bus access can do: neither kind touches the CPU, the configuration, the ROM or the inputs; a read
changes no memory and no port. -/

namespace Sys2Proof.Machine

/-- Everything a read of any address leaves alone. -/
structure State.ReadKeeps (s t : State) : Prop where
  cfg : t.cfg = s.cfg
  cpu : t.cpu = s.cpu
  port : t.port = s.port
  ram : t.ram = s.ram
  colorRam : t.colorRam = s.colorRam
  rom : t.rom = s.rom
  inputs : t.inputs = s.inputs
  drive : t.drive = s.drive
  elapsed : t.elapsed = s.elapsed

theorem State.ReadKeeps.refl (s : State) : s.ReadKeeps s := ⟨rfl, rfl, rfl, rfl, rfl, rfl, rfl, rfl, rfl⟩

theorem State.ReadKeeps.trans {s t u : State} (h : s.ReadKeeps t) (g : t.ReadKeeps u) : s.ReadKeeps u :=
  ⟨g.cfg.trans h.cfg, g.cpu.trans h.cpu, g.port.trans h.port, g.ram.trans h.ram, g.colorRam.trans h.colorRam,
    g.rom.trans h.rom, g.inputs.trans h.inputs, g.drive.trans h.drive, g.elapsed.trans h.elapsed⟩

theorem State.takeDraw_keeps (s : State) : s.ReadKeeps s.takeDraw.2 := ⟨rfl, rfl, rfl, rfl, rfl, rfl, rfl, rfl, rfl⟩

theorem State.cartAccess_keeps (s : State) : s.ReadKeeps s.cartAccess := by
  unfold State.cartAccess
  split
  · exact ⟨rfl, rfl, rfl, rfl, rfl, rfl, rfl, rfl, rfl⟩
  · exact .refl s

theorem State.portARead_keeps (b : Byte) (s : State) : s.ReadKeeps (s.portARead b).2 := by
  unfold State.portARead
  split
  · exact .refl s
  · exact s.takeDraw_keeps

theorem State.cia1Read_keeps (r : Nat) (s : State) : s.ReadKeeps (s.cia1Read r).2 := by
  have h : s.ReadKeeps { s with cia1 := (s.cia1.read s.cfg s.cia1.extA r).2 } :=
    ⟨rfl, rfl, rfl, rfl, rfl, rfl, rfl, rfl, rfl⟩
  unfold State.cia1Read
  split
  · exact h.trans (State.portARead_keeps _ _)
  · exact h

theorem State.cia2Read_keeps (r : Nat) (s : State) : s.ReadKeeps (s.cia2Read r).2 := by
  have h : s.ReadKeeps { s with cia2 := (s.cia2.read s.cfg s.cia2ExtA r).2 } :=
    ⟨rfl, rfl, rfl, rfl, rfl, rfl, rfl, rfl, rfl⟩
  unfold State.cia2Read
  split
  · exact h.trans (State.portARead_keeps _ _)
  · exact h

theorem State.ioRead_keeps (a : Word) (s : State) : s.ReadKeeps (s.ioRead a).2 := by
  unfold State.ioRead
  split
  · exact ⟨rfl, rfl, rfl, rfl, rfl, rfl, rfl, rfl, rfl⟩
  · split
    · exact s.takeDraw_keeps
    · split
      · exact s.takeDraw_keeps
      · split
        · exact s.cia1Read_keeps _
        · split
          · exact s.cia2Read_keeps _
          · exact s.cartAccess_keeps.trans (State.takeDraw_keeps _)

/-- A read changes only the devices it reaches, the cartridge's lines and the counter of free values. -/
theorem State.busRead_keeps (a : Word) (s : State) : s.ReadKeeps (s.busRead a).2 := by
  unfold State.busRead
  split
  · exact .refl s
  · split
    · exact .refl s
    · exact .refl s
    · exact .refl s
    · exact .refl s
    · exact s.cartAccess_keeps
    · exact s.cartAccess_keeps
    · exact s.ioRead_keeps a
    · exact s.takeDraw_keeps

@[simp] theorem State.busRead_cfg (a : Word) (s : State) : (s.busRead a).2.cfg = s.cfg := (s.busRead_keeps a).cfg
@[simp] theorem State.busRead_cpu (a : Word) (s : State) : (s.busRead a).2.cpu = s.cpu := (s.busRead_keeps a).cpu
@[simp] theorem State.busRead_port (a : Word) (s : State) : (s.busRead a).2.port = s.port := (s.busRead_keeps a).port
@[simp] theorem State.busRead_ram (a : Word) (s : State) : (s.busRead a).2.ram = s.ram := (s.busRead_keeps a).ram
@[simp] theorem State.busRead_colorRam (a : Word) (s : State) : (s.busRead a).2.colorRam = s.colorRam :=
  (s.busRead_keeps a).colorRam
@[simp] theorem State.busRead_rom (a : Word) (s : State) : (s.busRead a).2.rom = s.rom := (s.busRead_keeps a).rom
@[simp] theorem State.busRead_inputs (a : Word) (s : State) : (s.busRead a).2.inputs = s.inputs :=
  (s.busRead_keeps a).inputs
@[simp] theorem State.busRead_drive (a : Word) (s : State) : (s.busRead a).2.drive = s.drive := (s.busRead_keeps a).drive
@[simp] theorem State.busRead_elapsed (a : Word) (s : State) : (s.busRead a).2.elapsed = s.elapsed :=
  (s.busRead_keeps a).elapsed

/-- Everything a write of any address leaves alone. -/
structure State.WriteKeeps (s t : State) : Prop where
  cfg : t.cfg = s.cfg
  cpu : t.cpu = s.cpu
  rom : t.rom = s.rom
  inputs : t.inputs = s.inputs
  drive : t.drive = s.drive
  elapsed : t.elapsed = s.elapsed

theorem State.ioWrite_keeps (a : Word) (v : Byte) (s : State) : s.WriteKeeps (s.ioWrite a v) := by
  have h := s.cartAccess_keeps
  unfold State.ioWrite
  repeat' split
  all_goals first
    | exact ⟨rfl, rfl, rfl, rfl, rfl, rfl⟩
    | exact ⟨h.cfg, h.cpu, h.rom, h.inputs, h.drive, h.elapsed⟩

theorem State.busWrite_keeps (a : Word) (v : Byte) (s : State) : s.WriteKeeps (s.busWrite a v) := by
  unfold State.busWrite
  split
  · exact ⟨rfl, rfl, rfl, rfl, rfl, rfl⟩
  · split
    · exact ⟨rfl, rfl, rfl, rfl, rfl, rfl⟩
    · exact s.ioWrite_keeps a v
    · exact ⟨rfl, rfl, rfl, rfl, rfl, rfl⟩

@[simp] theorem State.busWrite_cfg (a : Word) (v : Byte) (s : State) : (s.busWrite a v).cfg = s.cfg :=
  (s.busWrite_keeps a v).cfg
@[simp] theorem State.busWrite_cpu (a : Word) (v : Byte) (s : State) : (s.busWrite a v).cpu = s.cpu :=
  (s.busWrite_keeps a v).cpu
@[simp] theorem State.busWrite_rom (a : Word) (v : Byte) (s : State) : (s.busWrite a v).rom = s.rom :=
  (s.busWrite_keeps a v).rom
@[simp] theorem State.busWrite_inputs (a : Word) (v : Byte) (s : State) : (s.busWrite a v).inputs = s.inputs :=
  (s.busWrite_keeps a v).inputs
@[simp] theorem State.busWrite_drive (a : Word) (v : Byte) (s : State) : (s.busWrite a v).drive = s.drive :=
  (s.busWrite_keeps a v).drive
@[simp] theorem State.busWrite_elapsed (a : Word) (v : Byte) (s : State) : (s.busWrite a v).elapsed = s.elapsed :=
  (s.busWrite_keeps a v).elapsed

/-- RAM after a write: changed only where the write is routed to RAM. -/
theorem State.busWrite_ram (a : Word) (v : Byte) (s : State) :
    (s.busWrite a v).ram = if s.ramAt a then s.ram.write a.toNat v else s.ram := by
  unfold State.busWrite State.ramAt
  split
  · simp [*, State.portWrite]
  · split
    · simp [*]
    · have : (s.ioWrite a v).ram = s.ram := by
        have h := s.cartAccess_keeps.ram
        unfold State.ioWrite
        repeat' split
        all_goals first | rfl | exact h
      simp [*]
    · simp [*]

/-- Colour RAM after a write: changed only where the write is routed to it, its low nibble only (R78). -/
theorem State.busWrite_colorRam (a : Word) (v : Byte) (s : State) :
    (s.busWrite a v).colorRam =
      if s.colorAt a then s.colorRam.write (a.toNat % 1024) (v &&& 0x0F#8) else s.colorRam := by
  have h := s.cartAccess_keeps.colorRam
  have io : (s.ioWrite a v).colorRam = if 8 ≤ ioBlock a ∧ ioBlock a < 12 then
      s.colorRam.write (a.toNat % 1024) (v &&& 0x0F#8) else s.colorRam := by
    unfold State.ioWrite
    by_cases h4 : ioBlock a < 4
    · rw [if_pos h4, if_neg (by omega)]
    · rw [if_neg h4]
      by_cases h8 : ioBlock a < 8
      · rw [if_pos h8, if_neg (by omega)]
      · rw [if_neg h8]
        by_cases h12 : ioBlock a < 12
        · rw [if_pos h12, if_pos ⟨by omega, h12⟩]
        · rw [if_neg h12, if_neg (show ¬(8 ≤ ioBlock a ∧ ioBlock a < 12) by omega)]
          split
          · rfl
          · split
            · rfl
            · exact h
  unfold State.busWrite State.colorAt
  split
  · simp [*, State.portWrite]
  · split
    · simp [*]
    · rename_i hp _ hk
      rw [io, ioBlock]
      by_cases hh : 8 ≤ a.toNat / 256 % 16 ∧ a.toNat / 256 % 16 < 12
      · rw [if_pos hh, if_pos (by simp [hp, hk, hh])]
      · rw [if_neg hh, if_neg (by simpa [hp, hk] using hh)]
    · simp [*]

/-- The processor port after a write: changed only by the port's own addresses. -/
theorem State.busWrite_port (a : Word) (v : Byte) (s : State) :
    (s.busWrite a v).port = if s.portAt a then (s.portWrite a v).port else s.port := by
  unfold State.busWrite
  split
  · rfl
  · split
    · rfl
    · have h := s.cartAccess_keeps.port
      unfold State.ioWrite
      repeat' split
      all_goals first | rfl | exact h
    · rfl

end Sys2Proof.Machine
end

