-- ==== Sys2Proof/Laws/Cycle.lean ====
section
/-! SUPPORT. What one row does to the state, field by field: the wait for the bus changes only what devices change, and
after the row the CPU is the row's effect on it. -/

namespace Sys2Proof.Machine

/-- A quantity that neither the devices' part nor a stalled cycle changes is not changed by a read's wait for the bus. -/
theorem State.readLoop_keeps {α : Type} (g : State → α) (hd : ∀ s, g s.devices = g s) (hs : ∀ s, g s.stallCycle = g s)
    (n : Nat) (s : State) : g (s.readLoop n) = g s := by
  induction n generalizing s with
  | zero => exact hd s
  | succ n ih =>
    unfold State.readLoop
    split
    · exact hd s
    · rw [ih, hs, hd]

@[simp] theorem State.readSlot_cfg (s : State) : s.readSlot.cfg = s.cfg :=
  State.readLoop_keeps (·.cfg) (by simp) (by simp) 66 s
@[simp] theorem State.readSlot_port (s : State) : s.readSlot.port = s.port :=
  State.readLoop_keeps (·.port) (by simp) (by simp) 66 s
@[simp] theorem State.readSlot_ram (s : State) : s.readSlot.ram = s.ram :=
  State.readLoop_keeps (·.ram) (by simp) (by simp) 66 s
@[simp] theorem State.readSlot_colorRam (s : State) : s.readSlot.colorRam = s.colorRam :=
  State.readLoop_keeps (·.colorRam) (by simp) (by simp) 66 s
@[simp] theorem State.readSlot_rom (s : State) : s.readSlot.rom = s.rom :=
  State.readLoop_keeps (·.rom) (by simp) (by simp) 66 s
@[simp] theorem State.readSlot_inputs (s : State) : s.readSlot.inputs = s.inputs :=
  State.readLoop_keeps (·.inputs) (by simp) (by simp) 66 s
@[simp] theorem State.readSlot_cpu_a (s : State) : s.readSlot.cpu.a = s.cpu.a :=
  State.readLoop_keeps (·.cpu.a) (by simp) (by simp) 66 s
@[simp] theorem State.readSlot_cpu_x (s : State) : s.readSlot.cpu.x = s.cpu.x :=
  State.readLoop_keeps (·.cpu.x) (by simp) (by simp) 66 s
@[simp] theorem State.readSlot_cpu_y (s : State) : s.readSlot.cpu.y = s.cpu.y :=
  State.readLoop_keeps (·.cpu.y) (by simp) (by simp) 66 s
@[simp] theorem State.readSlot_cpu_sp (s : State) : s.readSlot.cpu.sp = s.cpu.sp :=
  State.readLoop_keeps (·.cpu.sp) (by simp) (by simp) 66 s
@[simp] theorem State.readSlot_cpu_pc (s : State) : s.readSlot.cpu.pc = s.cpu.pc :=
  State.readLoop_keeps (·.cpu.pc) (by simp) (by simp) 66 s
@[simp] theorem State.readSlot_cpu_p (s : State) : s.readSlot.cpu.p = s.cpu.p :=
  State.readLoop_keeps (·.cpu.p) (by simp) (by simp) 66 s
@[simp] theorem State.readSlot_cpu_pcFrozen (s : State) : s.readSlot.cpu.pcFrozen = s.cpu.pcFrozen :=
  State.readLoop_keeps (·.cpu.pcFrozen) (by simp) (by simp) 66 s
@[simp] theorem State.readSlot_cpu_adl (s : State) : s.readSlot.cpu.adl = s.cpu.adl :=
  State.readLoop_keeps (·.cpu.adl) (by simp) (by simp) 66 s
@[simp] theorem State.readSlot_cpu_adh (s : State) : s.readSlot.cpu.adh = s.cpu.adh :=
  State.readLoop_keeps (·.cpu.adh) (by simp) (by simp) 66 s
@[simp] theorem State.readSlot_cpu_idl (s : State) : s.readSlot.cpu.idl = s.cpu.idl :=
  State.readLoop_keeps (·.cpu.idl) (by simp) (by simp) 66 s
@[simp] theorem State.readSlot_cpu_d (s : State) : s.readSlot.cpu.d = s.cpu.d :=
  State.readLoop_keeps (·.cpu.d) (by simp) (by simp) 66 s
@[simp] theorem State.readSlot_cpu_mip (s : State) : s.readSlot.cpu.mip = s.cpu.mip :=
  State.readLoop_keeps (·.cpu.mip) (by simp) (by simp) 66 s
@[simp] theorem State.readSlot_cpu_doNmi (s : State) : s.readSlot.cpu.doNmi = s.cpu.doNmi :=
  State.readLoop_keeps (·.cpu.doNmi) (by simp) (by simp) 66 s
@[simp] theorem State.readSlot_cpu_doIrq (s : State) : s.readSlot.cpu.doIrq = s.cpu.doIrq :=
  State.readLoop_keeps (·.cpu.doIrq) (by simp) (by simp) 66 s
@[simp] theorem State.readSlot_cpu_errorState (s : State) : s.readSlot.cpu.errorState = s.cpu.errorState :=
  State.readLoop_keeps (·.cpu.errorState) (by simp) (by simp) 66 s
@[simp] theorem State.readSlot_cpu_jamFlag (s : State) : s.readSlot.cpu.jamFlag = s.cpu.jamFlag :=
  State.readLoop_keeps (·.cpu.jamFlag) (by simp) (by simp) 66 s

/-- The byte a read row is given. -/
def State.rowByte (addr : Cpu → Word) (ov : Option Byte) (s : State) : Byte := ov.getD (s.nextRead (addr s.readSlot.cpu))

theorem State.rowByte_some (addr : Cpu → Word) (b : Byte) (s : State) : s.rowByte addr (some b) = b := rfl

theorem State.rowByte_none (addr : Cpu → Word) (s : State) : s.rowByte addr none = s.nextRead (addr s.readSlot.cpu) := rfl

/-! ## A read row -/

section
variable (s : State) (addr : Cpu → Word) (k : Byte → Cpu → Cpu) (ov : Option Byte)

@[simp] theorem State.runRow_read_cfg : (s.runRow (.read addr k) ov).cfg = s.cfg := by
  simp [State.runRow, State.performRead]
@[simp] theorem State.runRow_read_port : (s.runRow (.read addr k) ov).port = s.port := by
  simp [State.runRow, State.performRead]
@[simp] theorem State.runRow_read_ram : (s.runRow (.read addr k) ov).ram = s.ram := by
  simp [State.runRow, State.performRead]
@[simp] theorem State.runRow_read_colorRam : (s.runRow (.read addr k) ov).colorRam = s.colorRam := by
  simp [State.runRow, State.performRead]
@[simp] theorem State.runRow_read_rom : (s.runRow (.read addr k) ov).rom = s.rom := by
  simp [State.runRow, State.performRead]
@[simp] theorem State.runRow_read_inputs : (s.runRow (.read addr k) ov).inputs = s.inputs := by
  simp [State.runRow, State.performRead]
@[simp] theorem State.runRow_read_cpu_a :
    (s.runRow (.read addr k) ov).cpu.a = (k (s.rowByte addr ov) s.readSlot.cpu.nextRow).a := by
  simp [State.runRow, State.performRead, State.rowByte, State.nextRead]
@[simp] theorem State.runRow_read_cpu_x :
    (s.runRow (.read addr k) ov).cpu.x = (k (s.rowByte addr ov) s.readSlot.cpu.nextRow).x := by
  simp [State.runRow, State.performRead, State.rowByte, State.nextRead]
@[simp] theorem State.runRow_read_cpu_y :
    (s.runRow (.read addr k) ov).cpu.y = (k (s.rowByte addr ov) s.readSlot.cpu.nextRow).y := by
  simp [State.runRow, State.performRead, State.rowByte, State.nextRead]
@[simp] theorem State.runRow_read_cpu_sp :
    (s.runRow (.read addr k) ov).cpu.sp = (k (s.rowByte addr ov) s.readSlot.cpu.nextRow).sp := by
  simp [State.runRow, State.performRead, State.rowByte, State.nextRead]
@[simp] theorem State.runRow_read_cpu_pc :
    (s.runRow (.read addr k) ov).cpu.pc = (k (s.rowByte addr ov) s.readSlot.cpu.nextRow).pc := by
  simp [State.runRow, State.performRead, State.rowByte, State.nextRead]
@[simp] theorem State.runRow_read_cpu_p :
    (s.runRow (.read addr k) ov).cpu.p = (k (s.rowByte addr ov) s.readSlot.cpu.nextRow).p := by
  simp [State.runRow, State.performRead, State.rowByte, State.nextRead]
@[simp] theorem State.runRow_read_cpu_pcFrozen :
    (s.runRow (.read addr k) ov).cpu.pcFrozen = (k (s.rowByte addr ov) s.readSlot.cpu.nextRow).pcFrozen := by
  simp [State.runRow, State.performRead, State.rowByte, State.nextRead]
@[simp] theorem State.runRow_read_cpu_adl :
    (s.runRow (.read addr k) ov).cpu.adl = (k (s.rowByte addr ov) s.readSlot.cpu.nextRow).adl := by
  simp [State.runRow, State.performRead, State.rowByte, State.nextRead]
@[simp] theorem State.runRow_read_cpu_adh :
    (s.runRow (.read addr k) ov).cpu.adh = (k (s.rowByte addr ov) s.readSlot.cpu.nextRow).adh := by
  simp [State.runRow, State.performRead, State.rowByte, State.nextRead]
@[simp] theorem State.runRow_read_cpu_idl :
    (s.runRow (.read addr k) ov).cpu.idl = (k (s.rowByte addr ov) s.readSlot.cpu.nextRow).idl := by
  simp [State.runRow, State.performRead, State.rowByte, State.nextRead]
@[simp] theorem State.runRow_read_cpu_d :
    (s.runRow (.read addr k) ov).cpu.d = (k (s.rowByte addr ov) s.readSlot.cpu.nextRow).d := by
  simp [State.runRow, State.performRead, State.rowByte, State.nextRead]
@[simp] theorem State.runRow_read_cpu_mip :
    (s.runRow (.read addr k) ov).cpu.mip = (k (s.rowByte addr ov) s.readSlot.cpu.nextRow).mip := by
  simp [State.runRow, State.performRead, State.rowByte, State.nextRead]
@[simp] theorem State.runRow_read_cpu_doNmi :
    (s.runRow (.read addr k) ov).cpu.doNmi = (k (s.rowByte addr ov) s.readSlot.cpu.nextRow).doNmi := by
  simp [State.runRow, State.performRead, State.rowByte, State.nextRead]
@[simp] theorem State.runRow_read_cpu_doIrq :
    (s.runRow (.read addr k) ov).cpu.doIrq = (k (s.rowByte addr ov) s.readSlot.cpu.nextRow).doIrq := by
  simp [State.runRow, State.performRead, State.rowByte, State.nextRead]
@[simp] theorem State.runRow_read_cpu_errorState :
    (s.runRow (.read addr k) ov).cpu.errorState = (k (s.rowByte addr ov) s.readSlot.cpu.nextRow).errorState := by
  simp [State.runRow, State.performRead, State.rowByte, State.nextRead]
@[simp] theorem State.runRow_read_cpu_jamFlag :
    (s.runRow (.read addr k) ov).cpu.jamFlag = (k (s.rowByte addr ov) s.readSlot.cpu.nextRow).jamFlag := by
  simp [State.runRow, State.performRead, State.rowByte, State.nextRead]
@[simp] theorem State.runRow_read_cpu_stalled :
    (s.runRow (.read addr k) ov).cpu.stalled = (k (s.rowByte addr ov) s.readSlot.cpu.nextRow).stalled := by
  simp [State.runRow, State.performRead, State.rowByte, State.nextRead]
@[simp] theorem State.runRow_read_lines :
    (s.runRow (.read addr k) ov).cpu.lines = (k (s.rowByte addr ov) s.readSlot.cpu.nextRow).lines.housekeep := by
  simp [State.runRow, State.performRead, State.rowByte, State.nextRead]

end

/-! ## A write row -/

section
variable (s : State) (addr : Cpu → Word) (val : Cpu → Byte) (k : Cpu → Cpu) (ov : Option Byte)

@[simp] theorem State.runRow_write_cfg : (s.runRow (.write addr val k) ov).cfg = s.cfg := by
  simp [State.runRow, State.performWrite]
@[simp] theorem State.runRow_write_rom : (s.runRow (.write addr val k) ov).rom = s.rom := by
  simp [State.runRow, State.performWrite]
@[simp] theorem State.runRow_write_inputs : (s.runRow (.write addr val k) ov).inputs = s.inputs := by
  simp [State.runRow, State.performWrite]
@[simp] theorem State.runRow_write_port : (s.runRow (.write addr val k) ov).port =
    (s.devices.busWrite (addr s.devices.cpu) (val s.devices.cpu)).port := by
  simp [State.runRow, State.performWrite]
@[simp] theorem State.runRow_write_ram : (s.runRow (.write addr val k) ov).ram =
    (s.devices.busWrite (addr s.devices.cpu) (val s.devices.cpu)).ram := by
  simp [State.runRow, State.performWrite]
@[simp] theorem State.runRow_write_colorRam : (s.runRow (.write addr val k) ov).colorRam =
    (s.devices.busWrite (addr s.devices.cpu) (val s.devices.cpu)).colorRam := by
  simp [State.runRow, State.performWrite]
@[simp] theorem State.runRow_write_cpu_a :
    (s.runRow (.write addr val k) ov).cpu.a = (k s.devices.cpu.nextRow).a := by
  simp [State.runRow, State.performWrite]
@[simp] theorem State.runRow_write_cpu_x :
    (s.runRow (.write addr val k) ov).cpu.x = (k s.devices.cpu.nextRow).x := by
  simp [State.runRow, State.performWrite]
@[simp] theorem State.runRow_write_cpu_y :
    (s.runRow (.write addr val k) ov).cpu.y = (k s.devices.cpu.nextRow).y := by
  simp [State.runRow, State.performWrite]
@[simp] theorem State.runRow_write_cpu_sp :
    (s.runRow (.write addr val k) ov).cpu.sp = (k s.devices.cpu.nextRow).sp := by
  simp [State.runRow, State.performWrite]
@[simp] theorem State.runRow_write_cpu_pc :
    (s.runRow (.write addr val k) ov).cpu.pc = (k s.devices.cpu.nextRow).pc := by
  simp [State.runRow, State.performWrite]
@[simp] theorem State.runRow_write_cpu_p :
    (s.runRow (.write addr val k) ov).cpu.p = (k s.devices.cpu.nextRow).p := by
  simp [State.runRow, State.performWrite]
@[simp] theorem State.runRow_write_cpu_pcFrozen :
    (s.runRow (.write addr val k) ov).cpu.pcFrozen = (k s.devices.cpu.nextRow).pcFrozen := by
  simp [State.runRow, State.performWrite]
@[simp] theorem State.runRow_write_cpu_adl :
    (s.runRow (.write addr val k) ov).cpu.adl = (k s.devices.cpu.nextRow).adl := by
  simp [State.runRow, State.performWrite]
@[simp] theorem State.runRow_write_cpu_adh :
    (s.runRow (.write addr val k) ov).cpu.adh = (k s.devices.cpu.nextRow).adh := by
  simp [State.runRow, State.performWrite]
@[simp] theorem State.runRow_write_cpu_idl :
    (s.runRow (.write addr val k) ov).cpu.idl = (k s.devices.cpu.nextRow).idl := by
  simp [State.runRow, State.performWrite]
@[simp] theorem State.runRow_write_cpu_d :
    (s.runRow (.write addr val k) ov).cpu.d = (k s.devices.cpu.nextRow).d := by
  simp [State.runRow, State.performWrite]
@[simp] theorem State.runRow_write_cpu_mip :
    (s.runRow (.write addr val k) ov).cpu.mip = (k s.devices.cpu.nextRow).mip := by
  simp [State.runRow, State.performWrite]
@[simp] theorem State.runRow_write_cpu_doNmi :
    (s.runRow (.write addr val k) ov).cpu.doNmi = (k s.devices.cpu.nextRow).doNmi := by
  simp [State.runRow, State.performWrite]
@[simp] theorem State.runRow_write_cpu_doIrq :
    (s.runRow (.write addr val k) ov).cpu.doIrq = (k s.devices.cpu.nextRow).doIrq := by
  simp [State.runRow, State.performWrite]
@[simp] theorem State.runRow_write_cpu_errorState :
    (s.runRow (.write addr val k) ov).cpu.errorState = (k s.devices.cpu.nextRow).errorState := by
  simp [State.runRow, State.performWrite]
@[simp] theorem State.runRow_write_cpu_jamFlag :
    (s.runRow (.write addr val k) ov).cpu.jamFlag = (k s.devices.cpu.nextRow).jamFlag := by
  simp [State.runRow, State.performWrite]
@[simp] theorem State.runRow_write_cpu_stalled :
    (s.runRow (.write addr val k) ov).cpu.stalled = (k s.devices.cpu.nextRow).stalled := by
  simp [State.runRow, State.performWrite]
@[simp] theorem State.runRow_write_lines :
    (s.runRow (.write addr val k) ov).cpu.lines = (k s.devices.cpu.nextRow).lines.housekeep := by
  simp [State.runRow, State.performWrite]

end

/-! ## Rows -/

@[simp] theorem State.runRows_nil (bs : List Byte) (s : State) : s.runRows bs [] = s := rfl

theorem State.runRows_cons (bs : List Byte) (r : Row) (rs : List Row) (s : State) :
    s.runRows bs (r :: rs) =
      if (s.runRow r bs.head?).cpu.atBoundary then s.runRow r bs.head? else (s.runRow r bs.head?).runRows bs.tail rs := rfl

/-- A row that is not the last: the boundary test decides whether the next one runs. -/
theorem State.runRows_cons2 (bs : List Byte) (r r' : Row) (rs : List Row) (s : State) :
    s.runRows bs (r :: r' :: rs) =
      if (s.runRow r bs.head?).cpu.atBoundary then s.runRow r bs.head?
      else (s.runRow r bs.head?).runRows bs.tail (r' :: rs) := rfl

/-- The last row needs no boundary test. -/
@[simp] theorem State.runRows_one (bs : List Byte) (r : Row) (s : State) :
    s.runRows bs [r] = s.runRow r bs.head? := by simp [State.runRows_cons]

@[simp] theorem Cpu.atBoundary_eq (c : Cpu) :
    c.atBoundary = match c.mip with | .fetch => true | .jammed => true | .exec _ _ => false | .int _ _ => false := rfl

end Sys2Proof.Machine
end

