-- ==== Sys2Proof/Laws/Devices.lean ====
section
/-! SUPPORT. The devices' small operations. The CIA pipeline bit by bit: what arming and the update at the end of a cycle do
to every bit, for every layout of the chains, and what they leave alone; the bits of a byte given by its bits; the
VIC-II's copies under way; the disk's modified flag. -/

namespace Sys2Proof.Machine

@[simp] theorem pipeHas_eq (k : Nat) (w : BitVec 64) : pipeHas k w = w.getLsbD k := by
  by_cases h : w = 0#64 <;> simp [pipeHas, h]

@[simp] theorem Cia.has_eq (k : Nat) (c : Cia) : c.has k = c.delay.getLsbD k := pipeHas_eq k c.delay

theorem pipeBit_bit (k n : Nat) : (pipeBit k).getLsbD n = (decide (n < 64) && decide (k = n)) := by
  simp only [pipeBit, BitVec.getLsbD_shiftLeft, BitVec.getLsbD_one]
  by_cases h : k = n
  · subst h; simp
  · by_cases h2 : n < k
    · simp [h, h2]
    · have : n - k ≠ 0 := by omega
      simp [h, this]

@[simp] theorem Cia.arm_bit (k n : Nat) (c : Cia) :
    (c.arm k).delay.getLsbD n = (c.delay.getLsbD n || (decide (n < 64) && decide (k = n))) := by
  simp [Cia.arm, pipeBit_bit]

theorem setPipe_bit (k n : Nat) (on : Bool) (w : BitVec 64) :
    (setPipe k on w).getLsbD n = if n < 64 ∧ k = n then on else w.getLsbD n := by
  have hw : n < 64 ∨ w.getLsbD n = false := by
    by_cases h : n < 64
    · exact .inl h
    · exact .inr (BitVec.getLsbD_of_ge w n (by omega))
  unfold setPipe
  by_cases h2 : k = n
  · subst h2
    rcases hw with h | h <;> cases on <;> by_cases h3 : w = 0#64 <;> simp_all [pipeBit_bit]
  · have hp : (pipeBit k).getLsbD n = false := by simp [pipeBit_bit, h2]
    have hn : (if n < 64 ∧ k = n then on else w.getLsbD n) = w.getLsbD n := if_neg fun h => h2 h.2
    rw [hn]
    cases on <;> by_cases h3 : w = 0#64 <;> rcases hw with h | h <;>
      simp only [h3, if_true, if_false, Bool.false_eq_true, BitVec.getLsbD_or, BitVec.getLsbD_and, BitVec.getLsbD_not, hp, h] <;>
      simp

theorem foldl_pipeBit (l : List Nat) (m : BitVec 64) (n : Nat) :
    (l.foldl (fun m k => m ||| pipeBit k) m).getLsbD n = (m.getLsbD n || (decide (n < 64) && decide (n ∈ l))) := by
  induction l generalizing m with
  | nil => simp
  | cons k l ih =>
    simp only [List.foldl_cons, ih, BitVec.getLsbD_or, pipeBit_bit, List.mem_cons]
    by_cases h2 : k = n
    · by_cases h : n < 64 <;> simp [h, h2]
    · have h3 : ¬ n = k := fun e => h2 e.symm
      simp [h2, h3]

/-- `DELAY_MASK` keeps the stages above stage 0 and no other bit (R447). -/
theorem ciaDelayMask_bit (b : CiaDelayBits) (n : Nat) :
    (ciaDelayMask b).getLsbD n = (decide (n < 64) && decide (n ∈ b.laterStages)) := by
  simp [ciaDelayMask, foldl_pipeBit]

/-- The update of P6 (R447), the case of an empty word included. -/
theorem Cia.shiftPipe_delay (b : CiaDelayBits) (c : Cia) :
    (c.shiftPipe b).delay = ((c.delay <<< 1) &&& ciaDelayMask b) ||| c.feed := by
  by_cases h : c.delay = 0#64 <;> simp [Cia.shiftPipe, h]

/-- A bit after the update: the bit below it where the layout has a later stage, or the feed. -/
theorem Cia.shiftPipe_bit (b : CiaDelayBits) (c : Cia) (n : Nat) :
    (c.shiftPipe b).delay.getLsbD (n + 1) =
      ((decide (n + 1 < 64) && c.delay.getLsbD n && decide (n + 1 ∈ b.laterStages)) || c.feed.getLsbD (n + 1)) := by
  rw [Cia.shiftPipe_delay, BitVec.getLsbD_or, BitVec.getLsbD_and, ciaDelayMask_bit, BitVec.getLsbD_shiftLeft]
  by_cases h : n + 1 < 64 <;> simp [h]

@[simp] theorem Cia.shiftPipe_icr (b : CiaDelayBits) (c : Cia) : (c.shiftPipe b).icr = c.icr := rfl
@[simp] theorem Cia.shiftPipe_imr (b : CiaDelayBits) (c : Cia) : (c.shiftPipe b).imr = c.imr := rfl
@[simp] theorem Cia.shiftPipe_irqOut (b : CiaDelayBits) (c : Cia) : (c.shiftPipe b).irqOut = c.irqOut := rfl
@[simp] theorem Cia.shiftPipe_feed (b : CiaDelayBits) (c : Cia) : (c.shiftPipe b).feed = c.feed := rfl
@[simp] theorem Cia.shiftPipe_counterA (b : CiaDelayBits) (c : Cia) : (c.shiftPipe b).counterA = c.counterA := rfl
@[simp] theorem Cia.shiftPipe_counterB (b : CiaDelayBits) (c : Cia) : (c.shiftPipe b).counterB = c.counterB := rfl
@[simp] theorem Cia.shiftPipe_tod (b : CiaDelayBits) (c : Cia) : (c.shiftPipe b).tod = c.tod := rfl
@[simp] theorem Cia.shiftPipe_cra (b : CiaDelayBits) (c : Cia) : (c.shiftPipe b).cra = c.cra := rfl
@[simp] theorem Cia.shiftPipe_crb (b : CiaDelayBits) (c : Cia) : (c.shiftPipe b).crb = c.crb := rfl
@[simp] theorem Cia.arm_icr (k : Nat) (c : Cia) : (c.arm k).icr = c.icr := rfl
@[simp] theorem Cia.arm_imr (k : Nat) (c : Cia) : (c.arm k).imr = c.imr := rfl
@[simp] theorem Cia.arm_irqOut (k : Nat) (c : Cia) : (c.arm k).irqOut = c.irqOut := rfl
@[simp] theorem Cia.arm_feed (k : Nat) (c : Cia) : (c.arm k).feed = c.feed := rfl
@[simp] theorem Cia.arm_counterA (k : Nat) (c : Cia) : (c.arm k).counterA = c.counterA := rfl
@[simp] theorem Cia.arm_counterB (k : Nat) (c : Cia) : (c.arm k).counterB = c.counterB := rfl
@[simp] theorem Cia.arm_tod (k : Nat) (c : Cia) : (c.arm k).tod = c.tod := rfl

/-! ## The bits of a byte given by its bits, most significant first. -/

@[simp] theorem byteOfBits_bit0 : ∀ b7 b6 b5 b4 b3 b2 b1 b0 : Bool,
    (byteOfBits b7 b6 b5 b4 b3 b2 b1 b0).getLsbD 0 = b0 := by decide
@[simp] theorem byteOfBits_bit1 : ∀ b7 b6 b5 b4 b3 b2 b1 b0 : Bool,
    (byteOfBits b7 b6 b5 b4 b3 b2 b1 b0).getLsbD 1 = b1 := by decide
@[simp] theorem byteOfBits_bit2 : ∀ b7 b6 b5 b4 b3 b2 b1 b0 : Bool,
    (byteOfBits b7 b6 b5 b4 b3 b2 b1 b0).getLsbD 2 = b2 := by decide
@[simp] theorem byteOfBits_bit3 : ∀ b7 b6 b5 b4 b3 b2 b1 b0 : Bool,
    (byteOfBits b7 b6 b5 b4 b3 b2 b1 b0).getLsbD 3 = b3 := by decide
@[simp] theorem byteOfBits_bit4 : ∀ b7 b6 b5 b4 b3 b2 b1 b0 : Bool,
    (byteOfBits b7 b6 b5 b4 b3 b2 b1 b0).getLsbD 4 = b4 := by decide
@[simp] theorem byteOfBits_bit5 : ∀ b7 b6 b5 b4 b3 b2 b1 b0 : Bool,
    (byteOfBits b7 b6 b5 b4 b3 b2 b1 b0).getLsbD 5 = b5 := by decide
@[simp] theorem byteOfBits_bit6 : ∀ b7 b6 b5 b4 b3 b2 b1 b0 : Bool,
    (byteOfBits b7 b6 b5 b4 b3 b2 b1 b0).getLsbD 6 = b6 := by decide
@[simp] theorem byteOfBits_bit7 : ∀ b7 b6 b5 b4 b3 b2 b1 b0 : Bool,
    (byteOfBits b7 b6 b5 b4 b3 b2 b1 b0).getLsbD 7 = b7 := by decide

/-! ## Saving the disk image (R519) -/

@[simp] theorem Drive.saveImage_tracks (d : Drive) : d.saveImage.1 = d.disk.tracks := rfl
@[simp] theorem Drive.saveImage_modified (d : Drive) : d.saveImage.2.disk.modified = false := rfl
@[simp] theorem Drive.saveImage_disk_tracks (d : Drive) : d.saveImage.2.disk.tracks = d.disk.tracks := rfl
@[simp] theorem Drive.saveImage_writeProtected (d : Drive) :
    d.saveImage.2.disk.writeProtected = d.disk.writeProtected := rfl
@[simp] theorem Disk.setBit_modified (h off : Nat) (b : Bool) (k : Disk) : (k.setBit h off b).modified = true := rfl

/-! ## The VIC-II's delayed registers (R473) -/

@[simp] theorem Vic.copyPhase_cur (v : Vic) : v.copyPhase.cur = v.cur := rfl
@[simp] theorem Vic.copyPhase_line (v : Vic) : v.copyPhase.line = v.line := rfl
@[simp] theorem Vic.copyPhase_cycle (v : Vic) : v.copyPhase.cycle = v.cycle := rfl
@[simp] theorem Vic.shiftPipe_cur (v : Vic) : v.shiftPipe.cur = v.cur := rfl
@[simp] theorem Vic.shiftPipe_del (v : Vic) : v.shiftPipe.del = v.del := rfl
@[simp] theorem Vic.shiftPipe_copies (v : Vic) : v.shiftPipe.copies = v.copies := rfl

/-- Every copy still under way after a cycle was under way before it, with one cycle more to go. -/
theorem Vic.mem_copyPhase {v : Vic} {c : VicCopy} (h : c ∈ v.copyPhase.copies) :
    ∃ d ∈ v.copies, d.reg = c.reg ∧ d.left = c.left + 1 ∧ 1 ≤ c.left := by
  simp only [Vic.copyPhase, List.mem_filterMap] at h
  obtain ⟨d, hd, h⟩ := h
  unfold VicCopy.next at h
  split at h
  · cases h
  · cases h; exact ⟨d, hd, rfl, by simp; omega, by simp; omega⟩

end Sys2Proof.Machine
end

