-- ==== Sys2Proof/Laws/Words.lean ====
section
/-! SUPPORT. Bytes and words as numbers: halves, concatenation, and indexing with its page crossing. -/

namespace Sys2Proof

theorem cat_toNat (h l : Byte) : (cat h l).toNat = h.toNat * 256 + l.toNat := by
  have := l.isLt
  simp only [cat, BitVec.toNat_append, Nat.shiftLeft_eq]
  rw [← Nat.shiftLeft_eq, ← Nat.shiftLeft_add_eq_or_of_lt (by omega), Nat.shiftLeft_eq]

theorem lo_toNat (w : Word) : (lo w).toNat = w.toNat % 256 := by simp [lo, BitVec.extractLsb'_toNat]

theorem hi_toNat (w : Word) : (hi w).toNat = w.toNat / 256 := by
  have := w.isLt
  simp only [hi, BitVec.extractLsb'_toNat, Nat.shiftRight_eq_div_pow]
  omega

theorem zext16_toNat (b : Byte) : (zext16 b).toNat = b.toNat := by simp [zext16, cat_toNat]

@[simp] theorem cat_hi_lo (w : Word) : cat (hi w) (lo w) = w := by
  apply BitVec.eq_of_toNat_eq
  rw [cat_toNat, hi_toNat, lo_toNat]; omega

@[simp] theorem hi_cat (h l : Byte) : hi (cat h l) = h := by
  have := l.isLt
  apply BitVec.eq_of_toNat_eq
  rw [hi_toNat, cat_toNat]; omega

@[simp] theorem lo_cat (h l : Byte) : lo (cat h l) = l := by
  have := l.isLt
  apply BitVec.eq_of_toNat_eq
  rw [lo_toNat, cat_toNat]; omega

/-- The addition of an index carries out of the low byte exactly when the low sum is below the index. -/
theorem cross_iff (w : Word) (x : Byte) : hi (w + zext16 x) ≠ hi w ↔ (lo w + x).toNat < x.toNat := by
  have hw := w.isLt
  have hx := x.isLt
  rw [Ne, BitVec.toNat_eq, hi_toNat, hi_toNat, BitVec.toNat_add, zext16_toNat, BitVec.toNat_add, lo_toNat]
  omega

/-- An indexed address from its halves: the high byte is corrected when the index crossed the page. -/
theorem add_index (w : Word) (x : Byte) :
    cat (if (lo w + x).toNat < x.toNat then hi w + 1 else hi w) (lo w + x) = w + zext16 x := by
  have hw := w.isLt
  have hx := x.isLt
  have e : (lo w + x).toNat = (w.toNat % 256 + x.toNat) % 256 := by rw [BitVec.toNat_add, lo_toNat]
  apply BitVec.eq_of_toNat_eq
  rw [BitVec.toNat_add w, zext16_toNat]
  split
  · rename_i h
    rw [cat_toNat, e, BitVec.toNat_add, hi_toNat, show BitVec.toNat (1 : Byte) = 1 from rfl]
    rw [e] at h
    omega
  · rename_i h
    rw [cat_toNat, e, hi_toNat]
    rw [e] at h
    omega

end Sys2Proof
end

