-- ==== Sys2Proof/Laws/Templates.lean ====
section
/-! SUPPORT. What a whole template does, once for each addressing mode and access class: an instruction whose rows are the
template of a data operation completes with that operation's registers and with the template's store. -/

namespace Sys2Proof.Machine

/-! ## The address cycles: nothing has happened yet but the reads and PC's advance -/

/-- `u` stands inside the instruction that `s` fetched: only latches, PC, `mip` and devices have changed. -/
structure Lead (s u : State) (pc : Word) : Prop where
  regs : u.cpu.regs = s.cpu.regs
  pc : u.cpu.pc = pc
  frozen : u.cpu.pcFrozen = s.cpu.pc
  errorState : u.cpu.errorState = s.cpu.errorState
  jamFlag : u.cpu.jamFlag = s.cpu.jamFlag
  cfg : u.cfg = s.cfg
  rom : u.rom = s.rom
  inputs : u.inputs = s.inputs
  ram : u.ram = s.ram
  colorRam : u.colorRam = s.colorRam
  port : u.port = s.port

/-- A data operation's effect on the registers is `r`, and it touches nothing else that completion speaks of. -/
structure OpSpec (before after : Cpu) (r : Regs) : Prop where
  regs : after.regs = r
  pc : after.pc = before.pc
  frozen : after.pcFrozen = before.pcFrozen
  errorState : after.errorState = before.errorState
  jamFlag : after.jamFlag = before.jamFlag

/-- The last cycle of a class R instruction. -/
theorem Lead.readEnd {s u : State} {pc : Word} (h : Lead s u pc) {addr : Cpu → Word} {f : ReadOp}
    {g : Regs → Byte → Regs} (hf : ∀ v c, OpSpec c (f v c) (g c.regs v)) :
    Completes s (u.runRow (readEndRow addr f) none) pc (g s.cpu.regs (u.nextRead (addr u.readSlot.cpu))) ∧
      MemoryKept s (u.runRow (readEndRow addr f) none) := by
  refine ⟨⟨?_, ?_, ?_, ?_, ?_, ?_, ?_, ?_, ?_⟩, ⟨?_, ?_, ?_⟩⟩
  · rw [← h.regs]
    have e : ∀ c : Cpu, c.regs = ⟨c.a, c.x, c.y, c.sp, c.p⟩ := fun _ => rfl
    rw [e]; simp only [readEndRow, State.runRow_read_cpu_a, State.runRow_read_cpu_x, State.runRow_read_cpu_y,
      State.runRow_read_cpu_sp, State.runRow_read_cpu_p, Cpu.done_a, Cpu.done_x, Cpu.done_y, Cpu.done_sp, Cpu.done_p]
    rw [← e, (hf _ _).regs]; simp [Cpu.regs, State.rowByte_none]
  all_goals simp [readEndRow, (hf _ _).pc, (hf _ _).frozen, (hf _ _).errorState, (hf _ _).jamFlag, h.pc, h.frozen, h.errorState, h.jamFlag, h.cfg,
    h.rom, h.inputs, h.ram, h.colorRam, h.port]

/-- The last cycle of a class W instruction. -/
theorem Lead.writeEnd {s u : State} {pc : Word} (h : Lead s u pc) {addr : Cpu → Word} {w : WriteOp} {g : Regs → Regs}
    {a : Word} (ha : addr u.devices.cpu = a) (hw : ∀ c, OpSpec c (w.post c) (g c.regs)) :
    Completes s (u.runRow (writeEndRow addr w) none) pc (g s.cpu.regs) ∧
      Stores s u.devices (u.runRow (writeEndRow addr w) none) a (w.value u.devices.cpu) := by
  subst ha
  refine ⟨⟨?_, ?_, ?_, ?_, ?_, ?_, ?_, ?_, ?_⟩, ⟨?_, ?_, ?_, ?_, ?_⟩⟩
  · rw [← h.regs]
    have e : ∀ c : Cpu, c.regs = ⟨c.a, c.x, c.y, c.sp, c.p⟩ := fun _ => rfl
    rw [e]; simp only [writeEndRow, State.runRow_write_cpu_a, State.runRow_write_cpu_x, State.runRow_write_cpu_y,
      State.runRow_write_cpu_sp, State.runRow_write_cpu_p, Cpu.done_a, Cpu.done_x, Cpu.done_y, Cpu.done_sp, Cpu.done_p]
    rw [← e, (hw _).regs]; simp [Cpu.regs]
  all_goals simp [writeEndRow, (hw _).pc, (hw _).frozen, (hw _).errorState, (hw _).jamFlag, h.pc, h.frozen,
    h.errorState, h.jamFlag, h.cfg, h.rom, h.inputs, State.busWrite_ram, State.busWrite_colorRam, State.busWrite_port,
    h.ram, h.colorRam, h.port]
  · intro k hk; split <;> simp [Memory.read_write, hk]
  · intro hr; simp [hr]
  · intro hr; simp [hr]
  · intro k; by_cases hc : u.devices.colorAt (addr u.devices.cpu) = true <;> simp [hc, Memory.read_write]

/-- An address that only the latches decide, and that the wait for the bus and the data cycles leave alone. -/
structure LatchAddr (addr : Cpu → Word) : Prop where
  latches : ∀ c d : Cpu, c.adl = d.adl → c.adh = d.adh → addr c = addr d

theorem latchAddr_zp : LatchAddr Cpu.zpAddr := ⟨fun c d h _ => by simp [Cpu.zpAddr, h]⟩
theorem latchAddr_abs : LatchAddr Cpu.absAddr := ⟨fun c d h g => by simp [Cpu.absAddr, h, g]⟩

theorem LatchAddr.eq {addr : Cpu → Word} (l : LatchAddr addr) {c d : Cpu} (h : c.adl = d.adl) (g : c.adh = d.adh) :
    addr c = addr d := l.latches c d h g

/-- The three data cycles of a class M instruction. -/
theorem Lead.modifyEnd {s u u1 u2 : State} {pc : Word} (h : Lead s u pc) {addr : Cpu → Word} (l : LatchAddr addr)
    {f : ModifyOp} {res : Regs → Byte → Byte} {g : Regs → Byte → Regs} {a : Word} (ha : addr u.cpu = a)
    (h1 : u1 = u.runRow (readDataRow addr) none) (h2 : u2 = u1.runRow (writeOldRow addr) none)
    (hm : ∀ v c, OpSpec c (f v c).2 (g c.regs v)) (hr : ∀ v c, (f v c).1 = res c.regs v) :
    Completes s (u2.runRow (writeNewRow addr f) none) pc (g s.cpu.regs (u.nextRead a)) ∧
      StoresTwice s u1.devices u2.devices (u2.runRow (writeNewRow addr f) none) a (u.nextRead a)
        (res s.cpu.regs (u.nextRead a)) := by
  have a0 : addr u.readSlot.cpu = a := by rw [← ha]; exact l.eq (by simp) (by simp)
  have d1 : u1.cpu.d = u.nextRead a := by subst h1; simp [readDataRow, State.rowByte_none, a0]
  have a1 : addr u1.devices.cpu = a := by
    subst h1; rw [← ha]; exact l.eq (by simp [readDataRow]) (by simp [readDataRow])
  have k1 : u1.ram = s.ram ∧ u1.colorRam = s.colorRam ∧ u1.port = s.port ∧ u1.cfg = s.cfg ∧ u1.cpu.regs = s.cpu.regs ∧
      u1.cpu.pc = pc ∧ u1.cpu.pcFrozen = s.cpu.pc ∧ u1.cpu.errorState = s.cpu.errorState ∧
      u1.cpu.jamFlag = s.cpu.jamFlag ∧ u1.rom = s.rom ∧ u1.inputs = s.inputs := by
    rw [← h.regs]; subst h1
    simp [readDataRow, Cpu.regs, h.ram, h.colorRam, h.port, h.cfg, h.pc, h.frozen, h.errorState, h.jamFlag, h.rom, h.inputs]
  obtain ⟨m1, c1, p1, f1, r1, q1, z1, e1, j1, o1, i1⟩ := k1
  have d2 : u2.cpu.d = u.nextRead a := by subst h2; simp [writeOldRow, d1]
  have a2 : addr u2.devices.cpu = a := by
    subst h2; rw [← a1]; exact l.eq (by simp [writeOldRow]) (by simp [writeOldRow])
  have k2 : u2.ram = (u1.devices.busWrite a (u.nextRead a)).ram ∧
      u2.colorRam = (u1.devices.busWrite a (u.nextRead a)).colorRam ∧
      u2.port = (u1.devices.busWrite a (u.nextRead a)).port ∧ u2.cfg = s.cfg ∧ u2.cpu.regs = s.cpu.regs ∧
      u2.cpu.pc = pc ∧ u2.cpu.pcFrozen = s.cpu.pc ∧ u2.cpu.errorState = s.cpu.errorState ∧
      u2.cpu.jamFlag = s.cpu.jamFlag ∧ u2.rom = s.rom ∧ u2.inputs = s.inputs := by
    rw [← r1]; subst h2
    simp [writeOldRow, Cpu.regs, a1, d1, f1, q1, z1, e1, j1, o1, i1]
  obtain ⟨m2, c2, p2, f2, r2, q2, z2, e2, j2, o2, i2⟩ := k2
  clear h1 h2 h
  have d2' : u2.devices.cpu.d = u.nextRead a := by simpa using d2
  have r2' : u2.devices.cpu.regs = s.cpu.regs := by rw [← r2]; simp [Cpu.regs]
  have vv : (f u2.devices.cpu.d u2.devices.cpu).1 = res s.cpu.regs (u.nextRead a) := by rw [hr, d2', r2']
  have t : ∀ f, (u2.runRow (writeNewRow addr f) none) = u2.runRow (.write addr (fun c => (f c.d c).1) fun c => ((f c.d c.poll).2).done) none :=
    fun _ => rfl
  have tr : (u2.runRow (writeNewRow addr f) none).ram = (u2.devices.busWrite a (res s.cpu.regs (u.nextRead a))).ram := by
    rw [t, State.runRow_write_ram, a2, vv]
  have tc : (u2.runRow (writeNewRow addr f) none).colorRam =
      (u2.devices.busWrite a (res s.cpu.regs (u.nextRead a))).colorRam := by rw [t, State.runRow_write_colorRam, a2, vv]
  have tp : (u2.runRow (writeNewRow addr f) none).port =
      (u2.devices.busWrite a (res s.cpu.regs (u.nextRead a))).port := by rw [t, State.runRow_write_port, a2, vv]
  refine ⟨⟨?_, ?_, ?_, ?_, ?_, ?_, ?_, ?_, ?_⟩, ⟨?_, ?_, ?_, ?_, ?_, ?_, ?_, ?_, ?_⟩⟩
  · have e : ∀ c : Cpu, c.regs = ⟨c.a, c.x, c.y, c.sp, c.p⟩ := fun _ => rfl
    rw [t, e]
    simp only [State.runRow_write_cpu_a, State.runRow_write_cpu_x, State.runRow_write_cpu_y,
      State.runRow_write_cpu_sp, State.runRow_write_cpu_p, Cpu.done_a, Cpu.done_x, Cpu.done_y, Cpu.done_sp, Cpu.done_p]
    rw [← e, (hm _ _).regs]
    rw [show u2.devices.cpu.nextRow.d = u.nextRead a from d2', show u2.devices.cpu.nextRow.poll.regs = s.cpu.regs from r2']
  · simp [t, (hm _ _).pc, q2]
  · simp [t]
  · simp [t, (hm _ _).frozen, z2]
  · simp [t, (hm _ _).errorState, e2]
  · simp [t, (hm _ _).jamFlag, j2]
  · simp [t, f2]
  · simp [t, o2]
  · simp [t, i2]
  · intro k hk
    rw [tr, State.busWrite_ram, State.devices_ram, m2, State.busWrite_ram, State.devices_ram, m1]
    split <;> split <;> simp [Memory.read_write, hk]
  · intro hw; simp [tr, State.busWrite_ram, hw]
  · intro hu hw; simp [tr, State.busWrite_ram, hw, m2, hu]
  · intro hu hw; simp [tr, State.busWrite_ram, hw, m2, hu, m1]
  · intro k hk
    rw [tc, State.busWrite_colorRam, State.devices_colorRam, c2, State.busWrite_colorRam, State.devices_colorRam, c1]
    split <;> split <;> simp [Memory.read_write, hk]
  · intro hw; simp [tc, State.busWrite_colorRam, hw]
  · intro hu hw; simp [tc, State.busWrite_colorRam, hw, c2, hu, c1]
  · have pa : u2.devices.portAt a = u1.devices.portAt a := by simp [State.portAt, f2, f1]
    rw [tp, State.busWrite_port, State.devices_port, p2, State.busWrite_port, State.devices_port, p1, pa]
    split <;> rfl
  · rw [State.devices_port, p2, State.busWrite_port, State.devices_port, p1]

/-! ## The address cycles of each mode -/

/-- A page crossing, as the latches see it. -/
theorem crosses_index (w : Word) (x : Byte) : (hi (w + zext16 x) != hi w) = decide ((lo w + x).toNat < x.toNat) := by
  rw [Bool.eq_iff_iff]; simp only [bne_iff_ne, decide_eq_true_eq]; exact cross_iff w x

theorem lead_zp (op b : Byte) (s : State) :
    Lead s (s.runInstr [op, b] [opLoRow]) (s.cpu.pc + 2#16) ∧ (s.runInstr [op, b] [opLoRow]).cpu.adl = b := by
  refine ⟨⟨?_, ?_, ?_, ?_, ?_, ?_, ?_, ?_, ?_, ?_, ?_⟩, ?_⟩ <;>
    simp [State.runInstr, State.runRows_cons, fetchRow, opLoRow, Mip.next, Cpu.regs, State.rowByte_some, BitVec.add_assoc]

theorem lead_zpIdx (idx : Cpu → Byte) (hi : ∀ c d : Cpu, c.regs = d.regs → idx c = idx d) (op b : Byte) (s : State) :
    Lead s (s.runInstr [op, b] [opLoRow, zpIdxRow idx]) (s.cpu.pc + 2#16) ∧
      (s.runInstr [op, b] [opLoRow, zpIdxRow idx]).cpu.adl = b + idx s.cpu := by
  refine ⟨⟨?_, ?_, ?_, ?_, ?_, ?_, ?_, ?_, ?_, ?_, ?_⟩, ?_⟩
  case refine_12 =>
    simp [State.runInstr, State.runRows_cons, fetchRow, opLoRow, zpIdxRow, dummyRow, Mip.next, State.rowByte_some]
    exact hi _ _ (by simp [Cpu.regs])
  all_goals simp [State.runInstr, State.runRows_cons, fetchRow, opLoRow, zpIdxRow, dummyRow, Mip.next, Cpu.regs,
    State.rowByte_some, BitVec.add_assoc]

theorem lead_abs (op : Byte) (w : Word) (s : State) :
    Lead s (s.runInstr [op, lo w, hi w] [opLoRow, opHiRow]) (s.cpu.pc + 3#16) ∧
      Cpu.absAddr (s.runInstr [op, lo w, hi w] [opLoRow, opHiRow]).cpu = w := by
  refine ⟨⟨?_, ?_, ?_, ?_, ?_, ?_, ?_, ?_, ?_, ?_, ?_⟩, ?_⟩ <;>
    simp [State.runInstr, State.runRows_cons, fetchRow, opLoRow, opHiRow, Mip.next, Cpu.regs, State.rowByte_some,
      BitVec.add_assoc, Cpu.absAddr]

theorem lead_absIdx (idx : Cpu → Byte) (hx : ∀ c d : Cpu, c.regs = d.regs → idx c = idx d) (op : Byte) (w : Word)
    (s : State) :
    Lead s (s.runInstr [op, lo w, hi w] [opLoRow, opHiIdxRow idx]) (s.cpu.pc + 3#16) ∧
      (s.runInstr [op, lo w, hi w] [opLoRow, opHiIdxRow idx]).cpu.adh = hi w ∧
      (s.runInstr [op, lo w, hi w] [opLoRow, opHiIdxRow idx]).cpu.adl = lo w + idx s.cpu := by
  refine ⟨⟨?_, ?_, ?_, ?_, ?_, ?_, ?_, ?_, ?_, ?_, ?_⟩, ?_, ?_⟩
  case refine_13 =>
    simp [State.runInstr, State.runRows_cons, fetchRow, opLoRow, opHiIdxRow, Mip.next, State.rowByte_some]
    exact hx _ _ (by simp [Cpu.regs])
  all_goals simp [State.runInstr, State.runRows_cons, fetchRow, opLoRow, opHiIdxRow, Mip.next, Cpu.regs,
    State.rowByte_some, BitVec.add_assoc]

theorem lead_izx (op b : Byte) (s : State) :
    Lead s (s.runInstr [op, b] [opPtrRow, ptrIdxRow, ptrLoRow, ptrHiRow]) (s.cpu.pc + 2#16) ∧
      Cpu.absAddr (s.runInstr [op, b] [opPtrRow, ptrIdxRow, ptrLoRow, ptrHiRow]).cpu = pointerX op b s := by
  refine ⟨⟨?_, ?_, ?_, ?_, ?_, ?_, ?_, ?_, ?_, ?_, ?_⟩, ?_⟩ <;>
    simp [State.runInstr, State.runRows_cons, fetchRow, opPtrRow, ptrIdxRow, ptrLoRow, ptrHiRow, dummyRow, Mip.next,
      Cpu.regs, State.rowByte_some, State.rowByte_none, BitVec.add_assoc, Cpu.absAddr, pointerX, Cpu.ptrAddr, Cpu.ptrAddr1]

theorem lead_izy (op b : Byte) (s : State) :
    Lead s (s.runInstr [op, b] [opPtrRow, ptrLoRow, ptrHiIdxRow]) (s.cpu.pc + 2#16) ∧
      (s.runInstr [op, b] [opPtrRow, ptrLoRow, ptrHiIdxRow]).cpu.adh = hi (pointerY op b s) ∧
      (s.runInstr [op, b] [opPtrRow, ptrLoRow, ptrHiIdxRow]).cpu.adl = lo (pointerY op b s) + s.cpu.y := by
  refine ⟨⟨?_, ?_, ?_, ?_, ?_, ?_, ?_, ?_, ?_, ?_, ?_⟩, ?_, ?_⟩ <;>
    simp [State.runInstr, State.runRows_cons, fetchRow, opPtrRow, ptrLoRow, ptrHiIdxRow, Mip.next,
      Cpu.regs, State.rowByte_some, State.rowByte_none, BitVec.add_assoc, pointerY, Cpu.ptrAddr, Cpu.ptrAddr1]

/-- The dummy read of the indexed write modes corrects the high byte. -/
theorem Lead.fixup {s u : State} {pc : Word} (h : Lead s u pc) (idx : Cpu → Byte)
    (hx : ∀ c d : Cpu, c.regs = d.regs → idx c = idx d) (w : Word) (h1 : u.cpu.adh = hi w)
    (h2 : u.cpu.adl = lo w + idx s.cpu) :
    Lead s (u.runRow (fixupRow idx) none) pc ∧
      Cpu.absAddr (u.runRow (fixupRow idx) none).cpu = w + zext16 (idx s.cpu) := by
  have hr : idx u.readSlot.cpu.nextRow = idx s.cpu := hx _ _ (by rw [← h.regs]; simp [Cpu.regs])
  have hc : u.readSlot.cpu.nextRow.crossed idx = decide ((lo w + idx s.cpu).toNat < (idx s.cpu).toNat) := by
    simp [Cpu.crossed, hr, h2]
  refine ⟨⟨?_, ?_, ?_, ?_, ?_, ?_, ?_, ?_, ?_, ?_, ?_⟩, ?_⟩
  case refine_12 =>
    simp only [Cpu.absAddr, fixupRow, dummyRow, State.runRow_read_cpu_adh, State.runRow_read_cpu_adl, hc]
    rw [← add_index]
    by_cases hh : (lo w + idx s.cpu).toNat < (idx s.cpu).toNat
    · rw [if_pos hh, if_pos (decide_eq_true hh)]; simp [h1, h2]
    · rw [if_neg hh, if_neg (by simpa using hh)]; simp [h1, h2]
  · rw [← h.regs]; simp only [fixupRow, dummyRow, Cpu.regs, State.runRow_read_cpu_a, State.runRow_read_cpu_x,
      State.runRow_read_cpu_y, State.runRow_read_cpu_sp, State.runRow_read_cpu_p]; split <;> simp
  all_goals simp only [fixupRow, dummyRow, State.runRow_read_cpu_pc, State.runRow_read_cpu_pcFrozen,
    State.runRow_read_cpu_errorState, State.runRow_read_cpu_jamFlag, State.runRow_read_cfg, State.runRow_read_rom,
    State.runRow_read_inputs, State.runRow_read_ram, State.runRow_read_colorRam, State.runRow_read_port, h.cfg, h.rom,
    h.inputs, h.ram, h.colorRam, h.port]
  all_goals split <;> simp [h.pc, h.frozen, h.errorState, h.jamFlag]

/-- The dummy read of a page crossing in a read instruction. -/
theorem Lead.cross {s u : State} {pc : Word} (h : Lead s u pc) (i : Byte) (w : Word) (h1 : u.cpu.adh = hi w)
    (h2 : u.cpu.adl = lo w + i) (hc : (lo w + i).toNat < i.toNat) :
    Lead s (u.runRow crossRow none) pc ∧ Cpu.absAddr (u.runRow crossRow none).cpu = w + zext16 i := by
  refine ⟨⟨?_, ?_, ?_, ?_, ?_, ?_, ?_, ?_, ?_, ?_, ?_⟩, ?_⟩
  case refine_12 =>
    rw [← add_index, if_pos hc]
    simp [crossRow, Cpu.absAddr, h1, h2]
  · rw [← h.regs]; simp [crossRow, Cpu.regs]
  all_goals simp [crossRow, h.pc, h.frozen, h.errorState, h.jamFlag, h.cfg, h.rom, h.inputs, h.ram, h.colorRam, h.port]

/-! ## Class R: `Reads` of each mode -/

/-- In the last cycle without a crossing, `readCrossRow` is `readEndRow`. -/
theorem readCross_uncrossed (idx : Cpu → Byte) (f : ReadOp) (u : State)
    (h : u.readSlot.cpu.nextRow.crossed idx = false) :
    u.runRow (readCrossRow idx f) none = u.runRow (readEndRow Cpu.absAddr f) none := by
  have h' : (u.readSlot.busRead (Cpu.absAddr u.readSlot.cpu)).2.cpu.nextRow.crossed idx = false := by simpa using h
  simp only [State.runRow, readCrossRow, readEndRow, State.performRead, h']
  simp

/-- With a crossing it is the dummy read. -/
theorem readCross_crossed (idx : Cpu → Byte) (f : ReadOp) (u : State)
    (h : u.readSlot.cpu.nextRow.crossed idx = true) :
    u.runRow (readCrossRow idx f) none = u.runRow crossRow none := by
  have h' : (u.readSlot.busRead (Cpu.absAddr u.readSlot.cpu)).2.cpu.nextRow.crossed idx = true := by simpa using h
  simp only [State.runRow, readCrossRow, crossRow, State.performRead, h']
  simp

section
variable {i : Instr} {f : ReadOp} {g : Regs → Byte → Regs} (hf : ∀ v c, OpSpec c (f v c) (g c.regs v))
include hf

theorem reads_zp (b : Byte) (he : ∀ s, exec i s = .next (s.runInstr [i.opcode, b] (tZpR f))) :
    Reads i (.zp b) g := by
  intro s
  obtain ⟨hl, ha⟩ := lead_zp i.opcode b s
  refine ⟨_, he s, ?_⟩
  have hr : s.runInstr [i.opcode, b] (tZpR f) =
      (s.runInstr [i.opcode, b] [opLoRow]).runRow (readEndRow Cpu.zpAddr f) none := by
    simp [State.runInstr, State.runRows_cons2, fetchRow, tZpR, opLoRow, Mip.next]
  rw [hr]
  have ea : Cpu.zpAddr (s.runInstr [i.opcode, b] [opLoRow]).readSlot.cpu = EaMode.ea i.opcode s (.zp b) := by
    simp [Cpu.zpAddr, EaMode.ea, ha]
  have := hl.readEnd (addr := Cpu.zpAddr) hf
  rw [ea] at this
  exact this

theorem reads_zpx (b : Byte) (he : ∀ s, exec i s = .next (s.runInstr [i.opcode, b] (tZpIdxR (·.x) f))) :
    Reads i (.zpx b) g := by
  intro s
  obtain ⟨hl, ha⟩ := lead_zpIdx (·.x) (fun _ _ h => congrArg Regs.x h) i.opcode b s
  refine ⟨_, he s, ?_⟩
  have hr : s.runInstr [i.opcode, b] (tZpIdxR (·.x) f) =
      (s.runInstr [i.opcode, b] [opLoRow, zpIdxRow (·.x)]).runRow (readEndRow Cpu.zpAddr f) none := by
    simp [State.runInstr, State.runRows_cons2, fetchRow, tZpIdxR, opLoRow, zpIdxRow, dummyRow, Mip.next]
  rw [hr]
  have ea : Cpu.zpAddr (s.runInstr [i.opcode, b] [opLoRow, zpIdxRow (·.x)]).readSlot.cpu = EaMode.ea i.opcode s (.zpx b) := by
    simp [Cpu.zpAddr, EaMode.ea, ha]
  have := hl.readEnd (addr := Cpu.zpAddr) hf
  rw [ea] at this
  exact this

theorem reads_zpy (b : Byte) (he : ∀ s, exec i s = .next (s.runInstr [i.opcode, b] (tZpIdxR (·.y) f))) :
    Reads i (.zpy b) g := by
  intro s
  obtain ⟨hl, ha⟩ := lead_zpIdx (·.y) (fun _ _ h => congrArg Regs.y h) i.opcode b s
  refine ⟨_, he s, ?_⟩
  have hr : s.runInstr [i.opcode, b] (tZpIdxR (·.y) f) =
      (s.runInstr [i.opcode, b] [opLoRow, zpIdxRow (·.y)]).runRow (readEndRow Cpu.zpAddr f) none := by
    simp [State.runInstr, State.runRows_cons2, fetchRow, tZpIdxR, opLoRow, zpIdxRow, dummyRow, Mip.next]
  rw [hr]
  have ea : Cpu.zpAddr (s.runInstr [i.opcode, b] [opLoRow, zpIdxRow (·.y)]).readSlot.cpu = EaMode.ea i.opcode s (.zpy b) := by
    simp [Cpu.zpAddr, EaMode.ea, ha]
  have := hl.readEnd (addr := Cpu.zpAddr) hf
  rw [ea] at this
  exact this

theorem reads_abs (w : Word) (he : ∀ s, exec i s = .next (s.runInstr [i.opcode, lo w, hi w] (tAbsR f))) :
    Reads i (.abs w) g := by
  intro s
  obtain ⟨hl, ha⟩ := lead_abs i.opcode w s
  refine ⟨_, he s, ?_⟩
  have hr : s.runInstr [i.opcode, lo w, hi w] (tAbsR f) =
      (s.runInstr [i.opcode, lo w, hi w] [opLoRow, opHiRow]).runRow (readEndRow Cpu.absAddr f) none := by
    simp [State.runInstr, State.runRows_cons2, fetchRow, tAbsR, opLoRow, opHiRow, Mip.next]
  rw [hr]
  have ea : Cpu.absAddr (s.runInstr [i.opcode, lo w, hi w] [opLoRow, opHiRow]).readSlot.cpu = EaMode.ea i.opcode s (.abs w) := 
    (latchAddr_abs.eq (by simp) (by simp)).trans ha
  have := hl.readEnd (addr := Cpu.absAddr) hf
  rw [ea] at this
  exact this

theorem reads_izx (b : Byte) (he : ∀ s, exec i s = .next (s.runInstr [i.opcode, b] (tIzxR f))) :
    Reads i (.izx b) g := by
  intro s
  obtain ⟨hl, ha⟩ := lead_izx i.opcode b s
  refine ⟨_, he s, ?_⟩
  have hr : s.runInstr [i.opcode, b] (tIzxR f) =
      (s.runInstr [i.opcode, b] [opPtrRow, ptrIdxRow, ptrLoRow, ptrHiRow]).runRow (readEndRow Cpu.absAddr f) none := by
    simp [State.runInstr, State.runRows_cons2, fetchRow, tIzxR, opPtrRow, ptrIdxRow, ptrLoRow, ptrHiRow, dummyRow, Mip.next]
  rw [hr]
  have ea : Cpu.absAddr (s.runInstr [i.opcode, b] [opPtrRow, ptrIdxRow, ptrLoRow, ptrHiRow]).readSlot.cpu = EaMode.ea i.opcode s (.izx b) := 
    (latchAddr_abs.eq (by simp) (by simp)).trans ha
  have := hl.readEnd (addr := Cpu.absAddr) hf
  rw [ea] at this
  exact this

theorem reads_abx (w : Word) (he : ∀ s, exec i s = .next (s.runInstr [i.opcode, lo w, hi w] (tAbsIdxR (·.x) f))) :
    Reads i (.abx w) g := by
  intro s
  obtain ⟨hl, h1, h2⟩ := lead_absIdx (·.x) (fun _ _ h => congrArg Regs.x h) i.opcode w s
  refine ⟨_, he s, ?_⟩
  have hy : (s.runInstr [i.opcode, lo w, hi w] [opLoRow, opHiIdxRow (·.x)]).cpu.x = s.cpu.x := congrArg Regs.x hl.regs
  have hcr : (s.runInstr [i.opcode, lo w, hi w] [opLoRow, opHiIdxRow (·.x)]).readSlot.cpu.nextRow.crossed (·.x) = EaMode.crosses i.opcode s (.abx w) := by
    rw [show EaMode.crosses i.opcode s (.abx w) = _ from crosses_index w s.cpu.x]
    simp [Cpu.crossed, h2, hy]
  have ea : EaMode.ea i.opcode s (.abx w) = w + zext16 s.cpu.x := rfl
  by_cases hc : EaMode.crosses i.opcode s (.abx w) = true
  · rw [hc] at hcr
    have hr : s.runInstr [i.opcode, lo w, hi w] (tAbsIdxR (·.x) f) = ((s.runInstr [i.opcode, lo w, hi w] [opLoRow, opHiIdxRow (·.x)]).runRow crossRow none).runRow (readEndRow Cpu.absAddr f) none := by
      rw [← readCross_crossed _ f _ hcr]
      simp [State.runInstr, State.runRows_cons2, fetchRow, tAbsIdxR, opLoRow, opHiIdxRow, Mip.next] at hcr ⊢
      simp [readCrossRow, hcr, Mip.next]
    have hlead : s.runInstr [i.opcode, lo w, hi w] (EaMode.readLead i.opcode s (.abx w)) = (s.runInstr [i.opcode, lo w, hi w] [opLoRow, opHiIdxRow (·.x)]).runRow crossRow none := by
      simp [EaMode.readLead, hc, State.runInstr, State.runRows_cons2, fetchRow, opLoRow, opHiIdxRow, Mip.next]
    have hlt : (lo w + s.cpu.x).toNat < s.cpu.x.toNat := by
      rw [← cross_iff]; simpa [EaMode.crosses, EaMode.ea, EaMode.base] using hc
    obtain ⟨hl', ha⟩ := hl.cross _ _ h1 h2 hlt
    have := hl'.readEnd (addr := Cpu.absAddr) hf
    rw [show Cpu.absAddr ((s.runInstr [i.opcode, lo w, hi w] [opLoRow, opHiIdxRow (·.x)]).runRow crossRow none).readSlot.cpu = EaMode.ea i.opcode s (.abx w) by
      rw [ea, ← ha]; exact latchAddr_abs.eq (by simp) (by simp)] at this
    rw [hr]
    simp only [EaMode.operand, EaMode.bytes, hlead]
    exact this
  · rw [Bool.not_eq_true] at hc
    rw [hc] at hcr
    have hr : s.runInstr [i.opcode, lo w, hi w] (tAbsIdxR (·.x) f) = (s.runInstr [i.opcode, lo w, hi w] [opLoRow, opHiIdxRow (·.x)]).runRow (readEndRow Cpu.absAddr f) none := by
      rw [← readCross_uncrossed _ f _ hcr]
      simp [State.runInstr, State.runRows_cons2, fetchRow, tAbsIdxR, opLoRow, opHiIdxRow, Mip.next] at hcr ⊢
      simp [readCrossRow, hcr, Mip.next]
    have hlead : EaMode.readLead i.opcode s (.abx w) = [opLoRow, opHiIdxRow (·.x)] := by simp [EaMode.readLead, hc]
    have hlt : ¬(lo w + s.cpu.x).toNat < s.cpu.x.toNat := by
      rw [← cross_iff]; simpa [EaMode.crosses, EaMode.ea, EaMode.base] using hc
    have := hl.readEnd (addr := Cpu.absAddr) hf
    rw [show Cpu.absAddr (s.runInstr [i.opcode, lo w, hi w] [opLoRow, opHiIdxRow (·.x)]).readSlot.cpu = EaMode.ea i.opcode s (.abx w) by
      rw [ea, ← add_index, if_neg hlt]; simp [Cpu.absAddr, h1, h2]] at this
    rw [hr]
    simp only [EaMode.operand, EaMode.bytes, hlead]
    exact this

theorem reads_aby (w : Word) (he : ∀ s, exec i s = .next (s.runInstr [i.opcode, lo w, hi w] (tAbsIdxR (·.y) f))) :
    Reads i (.aby w) g := by
  intro s
  obtain ⟨hl, h1, h2⟩ := lead_absIdx (·.y) (fun _ _ h => congrArg Regs.y h) i.opcode w s
  refine ⟨_, he s, ?_⟩
  have hy : (s.runInstr [i.opcode, lo w, hi w] [opLoRow, opHiIdxRow (·.y)]).cpu.y = s.cpu.y := congrArg Regs.y hl.regs
  have hcr : (s.runInstr [i.opcode, lo w, hi w] [opLoRow, opHiIdxRow (·.y)]).readSlot.cpu.nextRow.crossed (·.y) = EaMode.crosses i.opcode s (.aby w) := by
    rw [show EaMode.crosses i.opcode s (.aby w) = _ from crosses_index w s.cpu.y]
    simp [Cpu.crossed, h2, hy]
  have ea : EaMode.ea i.opcode s (.aby w) = w + zext16 s.cpu.y := rfl
  by_cases hc : EaMode.crosses i.opcode s (.aby w) = true
  · rw [hc] at hcr
    have hr : s.runInstr [i.opcode, lo w, hi w] (tAbsIdxR (·.y) f) = ((s.runInstr [i.opcode, lo w, hi w] [opLoRow, opHiIdxRow (·.y)]).runRow crossRow none).runRow (readEndRow Cpu.absAddr f) none := by
      rw [← readCross_crossed _ f _ hcr]
      simp [State.runInstr, State.runRows_cons2, fetchRow, tAbsIdxR, opLoRow, opHiIdxRow, Mip.next] at hcr ⊢
      simp [readCrossRow, hcr, Mip.next]
    have hlead : s.runInstr [i.opcode, lo w, hi w] (EaMode.readLead i.opcode s (.aby w)) = (s.runInstr [i.opcode, lo w, hi w] [opLoRow, opHiIdxRow (·.y)]).runRow crossRow none := by
      simp [EaMode.readLead, hc, State.runInstr, State.runRows_cons2, fetchRow, opLoRow, opHiIdxRow, Mip.next]
    have hlt : (lo w + s.cpu.y).toNat < s.cpu.y.toNat := by
      rw [← cross_iff]; simpa [EaMode.crosses, EaMode.ea, EaMode.base] using hc
    obtain ⟨hl', ha⟩ := hl.cross _ _ h1 h2 hlt
    have := hl'.readEnd (addr := Cpu.absAddr) hf
    rw [show Cpu.absAddr ((s.runInstr [i.opcode, lo w, hi w] [opLoRow, opHiIdxRow (·.y)]).runRow crossRow none).readSlot.cpu = EaMode.ea i.opcode s (.aby w) by
      rw [ea, ← ha]; exact latchAddr_abs.eq (by simp) (by simp)] at this
    rw [hr]
    simp only [EaMode.operand, EaMode.bytes, hlead]
    exact this
  · rw [Bool.not_eq_true] at hc
    rw [hc] at hcr
    have hr : s.runInstr [i.opcode, lo w, hi w] (tAbsIdxR (·.y) f) = (s.runInstr [i.opcode, lo w, hi w] [opLoRow, opHiIdxRow (·.y)]).runRow (readEndRow Cpu.absAddr f) none := by
      rw [← readCross_uncrossed _ f _ hcr]
      simp [State.runInstr, State.runRows_cons2, fetchRow, tAbsIdxR, opLoRow, opHiIdxRow, Mip.next] at hcr ⊢
      simp [readCrossRow, hcr, Mip.next]
    have hlead : EaMode.readLead i.opcode s (.aby w) = [opLoRow, opHiIdxRow (·.y)] := by simp [EaMode.readLead, hc]
    have hlt : ¬(lo w + s.cpu.y).toNat < s.cpu.y.toNat := by
      rw [← cross_iff]; simpa [EaMode.crosses, EaMode.ea, EaMode.base] using hc
    have := hl.readEnd (addr := Cpu.absAddr) hf
    rw [show Cpu.absAddr (s.runInstr [i.opcode, lo w, hi w] [opLoRow, opHiIdxRow (·.y)]).readSlot.cpu = EaMode.ea i.opcode s (.aby w) by
      rw [ea, ← add_index, if_neg hlt]; simp [Cpu.absAddr, h1, h2]] at this
    rw [hr]
    simp only [EaMode.operand, EaMode.bytes, hlead]
    exact this

theorem reads_izy (b : Byte) (he : ∀ s, exec i s = .next (s.runInstr [i.opcode, b] (tIzyR f))) :
    Reads i (.izy b) g := by
  intro s
  obtain ⟨hl, h1, h2⟩ := lead_izy i.opcode b s
  refine ⟨_, he s, ?_⟩
  have hy : (s.runInstr [i.opcode, b] [opPtrRow, ptrLoRow, ptrHiIdxRow]).cpu.y = s.cpu.y := congrArg Regs.y hl.regs
  have hcr : (s.runInstr [i.opcode, b] [opPtrRow, ptrLoRow, ptrHiIdxRow]).readSlot.cpu.nextRow.crossed (·.y) = EaMode.crosses i.opcode s (.izy b) := by
    rw [show EaMode.crosses i.opcode s (.izy b) = _ from crosses_index (pointerY i.opcode b s) s.cpu.y]
    simp [Cpu.crossed, h2, hy]
  have ea : EaMode.ea i.opcode s (.izy b) = (pointerY i.opcode b s) + zext16 s.cpu.y := rfl
  by_cases hc : EaMode.crosses i.opcode s (.izy b) = true
  · rw [hc] at hcr
    have hr : s.runInstr [i.opcode, b] (tIzyR f) = ((s.runInstr [i.opcode, b] [opPtrRow, ptrLoRow, ptrHiIdxRow]).runRow crossRow none).runRow (readEndRow Cpu.absAddr f) none := by
      rw [← readCross_crossed _ f _ hcr]
      simp [State.runInstr, State.runRows_cons2, fetchRow, tIzyR, opPtrRow, ptrLoRow, ptrHiIdxRow, Mip.next] at hcr ⊢
      simp [readCrossRow, hcr, Mip.next]
    have hlead : s.runInstr [i.opcode, b] (EaMode.readLead i.opcode s (.izy b)) = (s.runInstr [i.opcode, b] [opPtrRow, ptrLoRow, ptrHiIdxRow]).runRow crossRow none := by
      simp [EaMode.readLead, hc, State.runInstr, State.runRows_cons2, fetchRow, opPtrRow, ptrLoRow, ptrHiIdxRow, Mip.next]
    have hlt : (lo (pointerY i.opcode b s) + s.cpu.y).toNat < s.cpu.y.toNat := by
      rw [← cross_iff]; simpa [EaMode.crosses, EaMode.ea, EaMode.base] using hc
    obtain ⟨hl', ha⟩ := hl.cross _ _ h1 h2 hlt
    have := hl'.readEnd (addr := Cpu.absAddr) hf
    rw [show Cpu.absAddr ((s.runInstr [i.opcode, b] [opPtrRow, ptrLoRow, ptrHiIdxRow]).runRow crossRow none).readSlot.cpu = EaMode.ea i.opcode s (.izy b) by
      rw [ea, ← ha]; exact latchAddr_abs.eq (by simp) (by simp)] at this
    rw [hr]
    simp only [EaMode.operand, EaMode.bytes, hlead]
    exact this
  · rw [Bool.not_eq_true] at hc
    rw [hc] at hcr
    have hr : s.runInstr [i.opcode, b] (tIzyR f) = (s.runInstr [i.opcode, b] [opPtrRow, ptrLoRow, ptrHiIdxRow]).runRow (readEndRow Cpu.absAddr f) none := by
      rw [← readCross_uncrossed _ f _ hcr]
      simp [State.runInstr, State.runRows_cons2, fetchRow, tIzyR, opPtrRow, ptrLoRow, ptrHiIdxRow, Mip.next] at hcr ⊢
      simp [readCrossRow, hcr, Mip.next]
    have hlead : EaMode.readLead i.opcode s (.izy b) = [opPtrRow, ptrLoRow, ptrHiIdxRow] := by simp [EaMode.readLead, hc]
    have hlt : ¬(lo (pointerY i.opcode b s) + s.cpu.y).toNat < s.cpu.y.toNat := by
      rw [← cross_iff]; simpa [EaMode.crosses, EaMode.ea, EaMode.base] using hc
    have := hl.readEnd (addr := Cpu.absAddr) hf
    rw [show Cpu.absAddr (s.runInstr [i.opcode, b] [opPtrRow, ptrLoRow, ptrHiIdxRow]).readSlot.cpu = EaMode.ea i.opcode s (.izy b) by
      rw [ea, ← add_index, if_neg hlt]; simp [Cpu.absAddr, h1, h2]] at this
    rw [hr]
    simp only [EaMode.operand, EaMode.bytes, hlead]
    exact this

end

/-- The fixup row goes on to the next row. -/
theorem runRow_fixup_mip (idx : Cpu → Byte) (ov : Option Byte) (u : State) :
    (u.runRow (fixupRow idx) ov).cpu.mip = u.cpu.mip.next := by
  simp only [fixupRow, dummyRow, State.runRow_read_cpu_mip]
  split <;> simp

/-! ## Class W: `Writes` of each mode -/

section
variable {i : Instr} {o : WriteOp} {g : Regs → Byte} (hp : ∀ c, o.post c = c)
  (hv : ∀ c, o.value c = g c.regs)
include hp hv

theorem writes_zp (b : Byte) (he : ∀ s, exec i s = .next (s.runInstr [i.opcode, b] (tZpW o))) :
    Writes i (.zp b) g := by
  intro s
  obtain ⟨hl, ha⟩ := lead_zp i.opcode b s
  have hr : s.runInstr [i.opcode, b] (tZpW o) = (s.runInstr [i.opcode, b] [opLoRow]).runRow (writeEndRow Cpu.zpAddr o) none := by
    simp [State.runInstr, State.runRows_cons2, fetchRow, tZpW, opLoRow, Mip.next]
  have ea : Cpu.zpAddr (s.runInstr [i.opcode, b] [opLoRow]).devices.cpu = EaMode.ea i.opcode s (.zp b) := by
    simp [Cpu.zpAddr, EaMode.ea, ha]
  have hg : o.value (s.runInstr [i.opcode, b] [opLoRow]).devices.cpu = g s.cpu.regs := by
    rw [hv, ← hl.regs]; simp [Cpu.regs]
  have := hl.writeEnd (g := id) ea fun c => by rw [hp]; exact ⟨rfl, rfl, rfl, rfl, rfl⟩
  rw [hg] at this
  exact ⟨_, (he s).trans (congrArg _ hr), this⟩

theorem writes_zpx (b : Byte) (he : ∀ s, exec i s = .next (s.runInstr [i.opcode, b] (tZpIdxW (·.x) o))) :
    Writes i (.zpx b) g := by
  intro s
  obtain ⟨hl, ha⟩ := lead_zpIdx (·.x) (fun _ _ h => congrArg Regs.x h) i.opcode b s
  have hr : s.runInstr [i.opcode, b] (tZpIdxW (·.x) o) = (s.runInstr [i.opcode, b] [opLoRow, zpIdxRow (·.x)]).runRow (writeEndRow Cpu.zpAddr o) none := by
    simp [State.runInstr, State.runRows_cons2, fetchRow, tZpIdxW, opLoRow, zpIdxRow, dummyRow, Mip.next]
  have ea : Cpu.zpAddr (s.runInstr [i.opcode, b] [opLoRow, zpIdxRow (·.x)]).devices.cpu = EaMode.ea i.opcode s (.zpx b) := by
    simp [Cpu.zpAddr, EaMode.ea, ha]
  have hg : o.value (s.runInstr [i.opcode, b] [opLoRow, zpIdxRow (·.x)]).devices.cpu = g s.cpu.regs := by
    rw [hv, ← hl.regs]; simp [Cpu.regs]
  have := hl.writeEnd (g := id) ea fun c => by rw [hp]; exact ⟨rfl, rfl, rfl, rfl, rfl⟩
  rw [hg] at this
  exact ⟨_, (he s).trans (congrArg _ hr), this⟩

theorem writes_zpy (b : Byte) (he : ∀ s, exec i s = .next (s.runInstr [i.opcode, b] (tZpIdxW (·.y) o))) :
    Writes i (.zpy b) g := by
  intro s
  obtain ⟨hl, ha⟩ := lead_zpIdx (·.y) (fun _ _ h => congrArg Regs.y h) i.opcode b s
  have hr : s.runInstr [i.opcode, b] (tZpIdxW (·.y) o) = (s.runInstr [i.opcode, b] [opLoRow, zpIdxRow (·.y)]).runRow (writeEndRow Cpu.zpAddr o) none := by
    simp [State.runInstr, State.runRows_cons2, fetchRow, tZpIdxW, opLoRow, zpIdxRow, dummyRow, Mip.next]
  have ea : Cpu.zpAddr (s.runInstr [i.opcode, b] [opLoRow, zpIdxRow (·.y)]).devices.cpu = EaMode.ea i.opcode s (.zpy b) := by
    simp [Cpu.zpAddr, EaMode.ea, ha]
  have hg : o.value (s.runInstr [i.opcode, b] [opLoRow, zpIdxRow (·.y)]).devices.cpu = g s.cpu.regs := by
    rw [hv, ← hl.regs]; simp [Cpu.regs]
  have := hl.writeEnd (g := id) ea fun c => by rw [hp]; exact ⟨rfl, rfl, rfl, rfl, rfl⟩
  rw [hg] at this
  exact ⟨_, (he s).trans (congrArg _ hr), this⟩

theorem writes_abs (w : Word) (he : ∀ s, exec i s = .next (s.runInstr [i.opcode, lo w, hi w] (tAbsW o))) :
    Writes i (.abs w) g := by
  intro s
  obtain ⟨hl, ha⟩ := lead_abs i.opcode w s
  have hr : s.runInstr [i.opcode, lo w, hi w] (tAbsW o) = (s.runInstr [i.opcode, lo w, hi w] [opLoRow, opHiRow]).runRow (writeEndRow Cpu.absAddr o) none := by
    simp [State.runInstr, State.runRows_cons2, fetchRow, tAbsW, opLoRow, opHiRow, Mip.next]
  have ea : Cpu.absAddr (s.runInstr [i.opcode, lo w, hi w] [opLoRow, opHiRow]).devices.cpu = EaMode.ea i.opcode s (.abs w) := 
    (latchAddr_abs.eq (by simp) (by simp)).trans ha
  have hg : o.value (s.runInstr [i.opcode, lo w, hi w] [opLoRow, opHiRow]).devices.cpu = g s.cpu.regs := by
    rw [hv, ← hl.regs]; simp [Cpu.regs]
  have := hl.writeEnd (g := id) ea fun c => by rw [hp]; exact ⟨rfl, rfl, rfl, rfl, rfl⟩
  rw [hg] at this
  exact ⟨_, (he s).trans (congrArg _ hr), this⟩

theorem writes_izx (b : Byte) (he : ∀ s, exec i s = .next (s.runInstr [i.opcode, b] (tIzxW o))) :
    Writes i (.izx b) g := by
  intro s
  obtain ⟨hl, ha⟩ := lead_izx i.opcode b s
  have hr : s.runInstr [i.opcode, b] (tIzxW o) = (s.runInstr [i.opcode, b] [opPtrRow, ptrIdxRow, ptrLoRow, ptrHiRow]).runRow (writeEndRow Cpu.absAddr o) none := by
    simp [State.runInstr, State.runRows_cons2, fetchRow, tIzxW, opPtrRow, ptrIdxRow, ptrLoRow, ptrHiRow, dummyRow, Mip.next]
  have ea : Cpu.absAddr (s.runInstr [i.opcode, b] [opPtrRow, ptrIdxRow, ptrLoRow, ptrHiRow]).devices.cpu = EaMode.ea i.opcode s (.izx b) := 
    (latchAddr_abs.eq (by simp) (by simp)).trans ha
  have hg : o.value (s.runInstr [i.opcode, b] [opPtrRow, ptrIdxRow, ptrLoRow, ptrHiRow]).devices.cpu = g s.cpu.regs := by
    rw [hv, ← hl.regs]; simp [Cpu.regs]
  have := hl.writeEnd (g := id) ea fun c => by rw [hp]; exact ⟨rfl, rfl, rfl, rfl, rfl⟩
  rw [hg] at this
  exact ⟨_, (he s).trans (congrArg _ hr), this⟩

theorem writes_abx (w : Word) (he : ∀ s, exec i s = .next (s.runInstr [i.opcode, lo w, hi w] (tAbsIdxW (·.x) o))) :
    Writes i (.abx w) g := by
  intro s
  obtain ⟨hl, h1, h2⟩ := lead_absIdx (·.x) (fun _ _ h => congrArg Regs.x h) i.opcode w s
  have hx : s.runInstr [i.opcode, lo w, hi w] [opLoRow, opHiIdxRow (·.x), fixupRow (·.x)] = (s.runInstr [i.opcode, lo w, hi w] [opLoRow, opHiIdxRow (·.x)]).runRow (fixupRow (·.x)) none := by
    simp [State.runInstr, State.runRows_cons2, fetchRow, opLoRow, opHiIdxRow, Mip.next]
  obtain ⟨hl, ha⟩ := hl.fixup (·.x) (fun _ _ h => congrArg Regs.x h) _ h1 h2
  rw [← hx] at hl ha
  have hr : s.runInstr [i.opcode, lo w, hi w] (tAbsIdxW (·.x) o) = (s.runInstr [i.opcode, lo w, hi w] [opLoRow, opHiIdxRow (·.x), fixupRow (·.x)]).runRow (writeEndRow Cpu.absAddr o) none := by
    simp [State.runInstr, State.runRows_cons2, fetchRow, tAbsIdxW, opLoRow, opHiIdxRow, runRow_fixup_mip, Mip.next]
  have ea : Cpu.absAddr (s.runInstr [i.opcode, lo w, hi w] [opLoRow, opHiIdxRow (·.x), fixupRow (·.x)]).devices.cpu = EaMode.ea i.opcode s (.abx w) := 
    (latchAddr_abs.eq (by simp) (by simp)).trans ha
  have hg : o.value (s.runInstr [i.opcode, lo w, hi w] [opLoRow, opHiIdxRow (·.x), fixupRow (·.x)]).devices.cpu = g s.cpu.regs := by
    rw [hv, ← hl.regs]; simp [Cpu.regs]
  have := hl.writeEnd (g := id) ea fun c => by rw [hp]; exact ⟨rfl, rfl, rfl, rfl, rfl⟩
  rw [hg] at this
  exact ⟨_, (he s).trans (congrArg _ hr), this⟩

theorem writes_aby (w : Word) (he : ∀ s, exec i s = .next (s.runInstr [i.opcode, lo w, hi w] (tAbsIdxW (·.y) o))) :
    Writes i (.aby w) g := by
  intro s
  obtain ⟨hl, h1, h2⟩ := lead_absIdx (·.y) (fun _ _ h => congrArg Regs.y h) i.opcode w s
  have hx : s.runInstr [i.opcode, lo w, hi w] [opLoRow, opHiIdxRow (·.y), fixupRow (·.y)] = (s.runInstr [i.opcode, lo w, hi w] [opLoRow, opHiIdxRow (·.y)]).runRow (fixupRow (·.y)) none := by
    simp [State.runInstr, State.runRows_cons2, fetchRow, opLoRow, opHiIdxRow, Mip.next]
  obtain ⟨hl, ha⟩ := hl.fixup (·.y) (fun _ _ h => congrArg Regs.y h) _ h1 h2
  rw [← hx] at hl ha
  have hr : s.runInstr [i.opcode, lo w, hi w] (tAbsIdxW (·.y) o) = (s.runInstr [i.opcode, lo w, hi w] [opLoRow, opHiIdxRow (·.y), fixupRow (·.y)]).runRow (writeEndRow Cpu.absAddr o) none := by
    simp [State.runInstr, State.runRows_cons2, fetchRow, tAbsIdxW, opLoRow, opHiIdxRow, runRow_fixup_mip, Mip.next]
  have ea : Cpu.absAddr (s.runInstr [i.opcode, lo w, hi w] [opLoRow, opHiIdxRow (·.y), fixupRow (·.y)]).devices.cpu = EaMode.ea i.opcode s (.aby w) := 
    (latchAddr_abs.eq (by simp) (by simp)).trans ha
  have hg : o.value (s.runInstr [i.opcode, lo w, hi w] [opLoRow, opHiIdxRow (·.y), fixupRow (·.y)]).devices.cpu = g s.cpu.regs := by
    rw [hv, ← hl.regs]; simp [Cpu.regs]
  have := hl.writeEnd (g := id) ea fun c => by rw [hp]; exact ⟨rfl, rfl, rfl, rfl, rfl⟩
  rw [hg] at this
  exact ⟨_, (he s).trans (congrArg _ hr), this⟩

theorem writes_izy (b : Byte) (he : ∀ s, exec i s = .next (s.runInstr [i.opcode, b] (tIzyW o))) :
    Writes i (.izy b) g := by
  intro s
  obtain ⟨hl, h1, h2⟩ := lead_izy i.opcode b s
  have hx : s.runInstr [i.opcode, b] [opPtrRow, ptrLoRow, ptrHiIdxRow, fixupRow (·.y)] = (s.runInstr [i.opcode, b] [opPtrRow, ptrLoRow, ptrHiIdxRow]).runRow (fixupRow (·.y)) none := by
    simp [State.runInstr, State.runRows_cons2, fetchRow, opPtrRow, ptrLoRow, ptrHiIdxRow, Mip.next]
  obtain ⟨hl, ha⟩ := hl.fixup (·.y) (fun _ _ h => congrArg Regs.y h) _ h1 h2
  rw [← hx] at hl ha
  have hr : s.runInstr [i.opcode, b] (tIzyW o) = (s.runInstr [i.opcode, b] [opPtrRow, ptrLoRow, ptrHiIdxRow, fixupRow (·.y)]).runRow (writeEndRow Cpu.absAddr o) none := by
    simp [State.runInstr, State.runRows_cons2, fetchRow, tIzyW, opPtrRow, ptrLoRow, ptrHiIdxRow, runRow_fixup_mip, Mip.next]
  have ea : Cpu.absAddr (s.runInstr [i.opcode, b] [opPtrRow, ptrLoRow, ptrHiIdxRow, fixupRow (·.y)]).devices.cpu = EaMode.ea i.opcode s (.izy b) := 
    (latchAddr_abs.eq (by simp) (by simp)).trans ha
  have hg : o.value (s.runInstr [i.opcode, b] [opPtrRow, ptrLoRow, ptrHiIdxRow, fixupRow (·.y)]).devices.cpu = g s.cpu.regs := by
    rw [hv, ← hl.regs]; simp [Cpu.regs]
  have := hl.writeEnd (g := id) ea fun c => by rw [hp]; exact ⟨rfl, rfl, rfl, rfl, rfl⟩
  rw [hg] at this
  exact ⟨_, (he s).trans (congrArg _ hr), this⟩

end

/-! ## Class M: `Modifies` of each mode -/

section
variable {i : Instr} {f : ModifyOp} {res : Regs → Byte → Byte} {g : Regs → Byte → Regs}
  (hm : ∀ v c, OpSpec c (f v c).2 (g c.regs v)) (hr : ∀ v c, (f v c).1 = res c.regs v)
include hm hr

theorem modifies_zp (b : Byte) (he : ∀ s, exec i s = .next (s.runInstr [i.opcode, b] (tZpM f))) :
    Modifies i (.zp b) res g := by
  intro s
  obtain ⟨hl, ha⟩ := lead_zp i.opcode b s
  have e1 : s.runInstr [i.opcode, b] [opLoRow, readDataRow Cpu.zpAddr] = (s.runInstr [i.opcode, b] [opLoRow]).runRow (readDataRow Cpu.zpAddr) none := by
    simp [State.runInstr, State.runRows_cons2, fetchRow, opLoRow, Mip.next]
  have e2 : s.runInstr [i.opcode, b] [opLoRow, readDataRow Cpu.zpAddr, writeOldRow Cpu.zpAddr] =
      (s.runInstr [i.opcode, b] [opLoRow, readDataRow Cpu.zpAddr]).runRow (writeOldRow Cpu.zpAddr) none := by
    simp [State.runInstr, State.runRows_cons2, fetchRow, opLoRow, readDataRow, Mip.next]
  have e3 : s.runInstr [i.opcode, b] (tZpM f) =
      (s.runInstr [i.opcode, b] [opLoRow, readDataRow Cpu.zpAddr, writeOldRow Cpu.zpAddr]).runRow (writeNewRow Cpu.zpAddr f) none := by
    simp [State.runInstr, State.runRows_cons2, fetchRow, tZpM, modifyRows, opLoRow, readDataRow, writeOldRow, Mip.next]
  have ea : Cpu.zpAddr (s.runInstr [i.opcode, b] [opLoRow]).cpu = EaMode.ea i.opcode s (.zp b) := by
    simp [Cpu.zpAddr, EaMode.ea, ha]
  exact ⟨_, (he s).trans (congrArg _ e3), hl.modifyEnd latchAddr_zp ea e1 e2 hm hr⟩

theorem modifies_zpx (b : Byte) (he : ∀ s, exec i s = .next (s.runInstr [i.opcode, b] (tZpIdxM (·.x) f))) :
    Modifies i (.zpx b) res g := by
  intro s
  obtain ⟨hl, ha⟩ := lead_zpIdx (·.x) (fun _ _ h => congrArg Regs.x h) i.opcode b s
  have e1 : s.runInstr [i.opcode, b] [opLoRow, zpIdxRow (·.x), readDataRow Cpu.zpAddr] = (s.runInstr [i.opcode, b] [opLoRow, zpIdxRow (·.x)]).runRow (readDataRow Cpu.zpAddr) none := by
    simp [State.runInstr, State.runRows_cons2, fetchRow, opLoRow, zpIdxRow, dummyRow, Mip.next]
  have e2 : s.runInstr [i.opcode, b] [opLoRow, zpIdxRow (·.x), readDataRow Cpu.zpAddr, writeOldRow Cpu.zpAddr] =
      (s.runInstr [i.opcode, b] [opLoRow, zpIdxRow (·.x), readDataRow Cpu.zpAddr]).runRow (writeOldRow Cpu.zpAddr) none := by
    simp [State.runInstr, State.runRows_cons2, fetchRow, opLoRow, zpIdxRow, dummyRow, readDataRow, Mip.next]
  have e3 : s.runInstr [i.opcode, b] (tZpIdxM (·.x) f) =
      (s.runInstr [i.opcode, b] [opLoRow, zpIdxRow (·.x), readDataRow Cpu.zpAddr, writeOldRow Cpu.zpAddr]).runRow (writeNewRow Cpu.zpAddr f) none := by
    simp [State.runInstr, State.runRows_cons2, fetchRow, tZpIdxM, modifyRows, opLoRow, zpIdxRow, dummyRow, readDataRow, writeOldRow, Mip.next]
  have ea : Cpu.zpAddr (s.runInstr [i.opcode, b] [opLoRow, zpIdxRow (·.x)]).cpu = EaMode.ea i.opcode s (.zpx b) := by
    simp [Cpu.zpAddr, EaMode.ea, ha]
  exact ⟨_, (he s).trans (congrArg _ e3), hl.modifyEnd latchAddr_zp ea e1 e2 hm hr⟩

theorem modifies_abs (w : Word) (he : ∀ s, exec i s = .next (s.runInstr [i.opcode, lo w, hi w] (tAbsM f))) :
    Modifies i (.abs w) res g := by
  intro s
  obtain ⟨hl, ha⟩ := lead_abs i.opcode w s
  have e1 : s.runInstr [i.opcode, lo w, hi w] [opLoRow, opHiRow, readDataRow Cpu.absAddr] = (s.runInstr [i.opcode, lo w, hi w] [opLoRow, opHiRow]).runRow (readDataRow Cpu.absAddr) none := by
    simp [State.runInstr, State.runRows_cons2, fetchRow, opLoRow, opHiRow, Mip.next]
  have e2 : s.runInstr [i.opcode, lo w, hi w] [opLoRow, opHiRow, readDataRow Cpu.absAddr, writeOldRow Cpu.absAddr] =
      (s.runInstr [i.opcode, lo w, hi w] [opLoRow, opHiRow, readDataRow Cpu.absAddr]).runRow (writeOldRow Cpu.absAddr) none := by
    simp [State.runInstr, State.runRows_cons2, fetchRow, opLoRow, opHiRow, readDataRow, Mip.next]
  have e3 : s.runInstr [i.opcode, lo w, hi w] (tAbsM f) =
      (s.runInstr [i.opcode, lo w, hi w] [opLoRow, opHiRow, readDataRow Cpu.absAddr, writeOldRow Cpu.absAddr]).runRow (writeNewRow Cpu.absAddr f) none := by
    simp [State.runInstr, State.runRows_cons2, fetchRow, tAbsM, modifyRows, opLoRow, opHiRow, readDataRow, writeOldRow, Mip.next]
  have ea : Cpu.absAddr (s.runInstr [i.opcode, lo w, hi w] [opLoRow, opHiRow]).cpu = EaMode.ea i.opcode s (.abs w) := ha
  exact ⟨_, (he s).trans (congrArg _ e3), hl.modifyEnd latchAddr_abs ea e1 e2 hm hr⟩

theorem modifies_izx (b : Byte) (he : ∀ s, exec i s = .next (s.runInstr [i.opcode, b] (tIzxM f))) :
    Modifies i (.izx b) res g := by
  intro s
  obtain ⟨hl, ha⟩ := lead_izx i.opcode b s
  have e1 : s.runInstr [i.opcode, b] [opPtrRow, ptrIdxRow, ptrLoRow, ptrHiRow, readDataRow Cpu.absAddr] = (s.runInstr [i.opcode, b] [opPtrRow, ptrIdxRow, ptrLoRow, ptrHiRow]).runRow (readDataRow Cpu.absAddr) none := by
    simp [State.runInstr, State.runRows_cons2, fetchRow, opPtrRow, ptrIdxRow, ptrLoRow, ptrHiRow, dummyRow, Mip.next]
  have e2 : s.runInstr [i.opcode, b] [opPtrRow, ptrIdxRow, ptrLoRow, ptrHiRow, readDataRow Cpu.absAddr, writeOldRow Cpu.absAddr] =
      (s.runInstr [i.opcode, b] [opPtrRow, ptrIdxRow, ptrLoRow, ptrHiRow, readDataRow Cpu.absAddr]).runRow (writeOldRow Cpu.absAddr) none := by
    simp [State.runInstr, State.runRows_cons2, fetchRow, opPtrRow, ptrIdxRow, ptrLoRow, ptrHiRow, dummyRow, readDataRow, Mip.next]
  have e3 : s.runInstr [i.opcode, b] (tIzxM f) =
      (s.runInstr [i.opcode, b] [opPtrRow, ptrIdxRow, ptrLoRow, ptrHiRow, readDataRow Cpu.absAddr, writeOldRow Cpu.absAddr]).runRow (writeNewRow Cpu.absAddr f) none := by
    simp [State.runInstr, State.runRows_cons2, fetchRow, tIzxM, modifyRows, opPtrRow, ptrIdxRow, ptrLoRow, ptrHiRow, dummyRow, readDataRow, writeOldRow, Mip.next]
  have ea : Cpu.absAddr (s.runInstr [i.opcode, b] [opPtrRow, ptrIdxRow, ptrLoRow, ptrHiRow]).cpu = EaMode.ea i.opcode s (.izx b) := ha
  exact ⟨_, (he s).trans (congrArg _ e3), hl.modifyEnd latchAddr_abs ea e1 e2 hm hr⟩

theorem modifies_abx (w : Word) (he : ∀ s, exec i s = .next (s.runInstr [i.opcode, lo w, hi w] (tAbsIdxM (·.x) f))) :
    Modifies i (.abx w) res g := by
  intro s
  obtain ⟨hl, h1, h2⟩ := lead_absIdx (·.x) (fun _ _ h => congrArg Regs.x h) i.opcode w s
  have hx : s.runInstr [i.opcode, lo w, hi w] [opLoRow, opHiIdxRow (·.x), fixupRow (·.x)] = (s.runInstr [i.opcode, lo w, hi w] [opLoRow, opHiIdxRow (·.x)]).runRow (fixupRow (·.x)) none := by
    simp [State.runInstr, State.runRows_cons2, fetchRow, opLoRow, opHiIdxRow, Mip.next]
  obtain ⟨hl, ha⟩ := hl.fixup (·.x) (fun _ _ h => congrArg Regs.x h) _ h1 h2
  rw [← hx] at hl ha
  have e1 : s.runInstr [i.opcode, lo w, hi w] [opLoRow, opHiIdxRow (·.x), fixupRow (·.x), readDataRow Cpu.absAddr] = (s.runInstr [i.opcode, lo w, hi w] [opLoRow, opHiIdxRow (·.x), fixupRow (·.x)]).runRow (readDataRow Cpu.absAddr) none := by
    simp [State.runInstr, State.runRows_cons2, fetchRow, opLoRow, opHiIdxRow, runRow_fixup_mip, Mip.next]
  have e2 : s.runInstr [i.opcode, lo w, hi w] [opLoRow, opHiIdxRow (·.x), fixupRow (·.x), readDataRow Cpu.absAddr, writeOldRow Cpu.absAddr] =
      (s.runInstr [i.opcode, lo w, hi w] [opLoRow, opHiIdxRow (·.x), fixupRow (·.x), readDataRow Cpu.absAddr]).runRow (writeOldRow Cpu.absAddr) none := by
    simp [State.runInstr, State.runRows_cons2, fetchRow, opLoRow, opHiIdxRow, runRow_fixup_mip, readDataRow, Mip.next]
  have e3 : s.runInstr [i.opcode, lo w, hi w] (tAbsIdxM (·.x) f) =
      (s.runInstr [i.opcode, lo w, hi w] [opLoRow, opHiIdxRow (·.x), fixupRow (·.x), readDataRow Cpu.absAddr, writeOldRow Cpu.absAddr]).runRow (writeNewRow Cpu.absAddr f) none := by
    simp [State.runInstr, State.runRows_cons2, fetchRow, tAbsIdxM, modifyRows, opLoRow, opHiIdxRow, runRow_fixup_mip, readDataRow, writeOldRow, Mip.next]
  have ea : Cpu.absAddr (s.runInstr [i.opcode, lo w, hi w] [opLoRow, opHiIdxRow (·.x), fixupRow (·.x)]).cpu = EaMode.ea i.opcode s (.abx w) := ha
  exact ⟨_, (he s).trans (congrArg _ e3), hl.modifyEnd latchAddr_abs ea e1 e2 hm hr⟩

theorem modifies_aby (w : Word) (he : ∀ s, exec i s = .next (s.runInstr [i.opcode, lo w, hi w] (tAbsIdxM (·.y) f))) :
    Modifies i (.aby w) res g := by
  intro s
  obtain ⟨hl, h1, h2⟩ := lead_absIdx (·.y) (fun _ _ h => congrArg Regs.y h) i.opcode w s
  have hx : s.runInstr [i.opcode, lo w, hi w] [opLoRow, opHiIdxRow (·.y), fixupRow (·.y)] = (s.runInstr [i.opcode, lo w, hi w] [opLoRow, opHiIdxRow (·.y)]).runRow (fixupRow (·.y)) none := by
    simp [State.runInstr, State.runRows_cons2, fetchRow, opLoRow, opHiIdxRow, Mip.next]
  obtain ⟨hl, ha⟩ := hl.fixup (·.y) (fun _ _ h => congrArg Regs.y h) _ h1 h2
  rw [← hx] at hl ha
  have e1 : s.runInstr [i.opcode, lo w, hi w] [opLoRow, opHiIdxRow (·.y), fixupRow (·.y), readDataRow Cpu.absAddr] = (s.runInstr [i.opcode, lo w, hi w] [opLoRow, opHiIdxRow (·.y), fixupRow (·.y)]).runRow (readDataRow Cpu.absAddr) none := by
    simp [State.runInstr, State.runRows_cons2, fetchRow, opLoRow, opHiIdxRow, runRow_fixup_mip, Mip.next]
  have e2 : s.runInstr [i.opcode, lo w, hi w] [opLoRow, opHiIdxRow (·.y), fixupRow (·.y), readDataRow Cpu.absAddr, writeOldRow Cpu.absAddr] =
      (s.runInstr [i.opcode, lo w, hi w] [opLoRow, opHiIdxRow (·.y), fixupRow (·.y), readDataRow Cpu.absAddr]).runRow (writeOldRow Cpu.absAddr) none := by
    simp [State.runInstr, State.runRows_cons2, fetchRow, opLoRow, opHiIdxRow, runRow_fixup_mip, readDataRow, Mip.next]
  have e3 : s.runInstr [i.opcode, lo w, hi w] (tAbsIdxM (·.y) f) =
      (s.runInstr [i.opcode, lo w, hi w] [opLoRow, opHiIdxRow (·.y), fixupRow (·.y), readDataRow Cpu.absAddr, writeOldRow Cpu.absAddr]).runRow (writeNewRow Cpu.absAddr f) none := by
    simp [State.runInstr, State.runRows_cons2, fetchRow, tAbsIdxM, modifyRows, opLoRow, opHiIdxRow, runRow_fixup_mip, readDataRow, writeOldRow, Mip.next]
  have ea : Cpu.absAddr (s.runInstr [i.opcode, lo w, hi w] [opLoRow, opHiIdxRow (·.y), fixupRow (·.y)]).cpu = EaMode.ea i.opcode s (.aby w) := ha
  exact ⟨_, (he s).trans (congrArg _ e3), hl.modifyEnd latchAddr_abs ea e1 e2 hm hr⟩

theorem modifies_izy (b : Byte) (he : ∀ s, exec i s = .next (s.runInstr [i.opcode, b] (tIzyM f))) :
    Modifies i (.izy b) res g := by
  intro s
  obtain ⟨hl, h1, h2⟩ := lead_izy i.opcode b s
  have hx : s.runInstr [i.opcode, b] [opPtrRow, ptrLoRow, ptrHiIdxRow, fixupRow (·.y)] = (s.runInstr [i.opcode, b] [opPtrRow, ptrLoRow, ptrHiIdxRow]).runRow (fixupRow (·.y)) none := by
    simp [State.runInstr, State.runRows_cons2, fetchRow, opPtrRow, ptrLoRow, ptrHiIdxRow, Mip.next]
  obtain ⟨hl, ha⟩ := hl.fixup (·.y) (fun _ _ h => congrArg Regs.y h) _ h1 h2
  rw [← hx] at hl ha
  have e1 : s.runInstr [i.opcode, b] [opPtrRow, ptrLoRow, ptrHiIdxRow, fixupRow (·.y), readDataRow Cpu.absAddr] = (s.runInstr [i.opcode, b] [opPtrRow, ptrLoRow, ptrHiIdxRow, fixupRow (·.y)]).runRow (readDataRow Cpu.absAddr) none := by
    simp [State.runInstr, State.runRows_cons2, fetchRow, opPtrRow, ptrLoRow, ptrHiIdxRow, runRow_fixup_mip, Mip.next]
  have e2 : s.runInstr [i.opcode, b] [opPtrRow, ptrLoRow, ptrHiIdxRow, fixupRow (·.y), readDataRow Cpu.absAddr, writeOldRow Cpu.absAddr] =
      (s.runInstr [i.opcode, b] [opPtrRow, ptrLoRow, ptrHiIdxRow, fixupRow (·.y), readDataRow Cpu.absAddr]).runRow (writeOldRow Cpu.absAddr) none := by
    simp [State.runInstr, State.runRows_cons2, fetchRow, opPtrRow, ptrLoRow, ptrHiIdxRow, runRow_fixup_mip, readDataRow, Mip.next]
  have e3 : s.runInstr [i.opcode, b] (tIzyM f) =
      (s.runInstr [i.opcode, b] [opPtrRow, ptrLoRow, ptrHiIdxRow, fixupRow (·.y), readDataRow Cpu.absAddr, writeOldRow Cpu.absAddr]).runRow (writeNewRow Cpu.absAddr f) none := by
    simp [State.runInstr, State.runRows_cons2, fetchRow, tIzyM, modifyRows, opPtrRow, ptrLoRow, ptrHiIdxRow, runRow_fixup_mip, readDataRow, writeOldRow, Mip.next]
  have ea : Cpu.absAddr (s.runInstr [i.opcode, b] [opPtrRow, ptrLoRow, ptrHiIdxRow, fixupRow (·.y)]).cpu = EaMode.ea i.opcode s (.izy b) := ha
  exact ⟨_, (he s).trans (congrArg _ e3), hl.modifyEnd latchAddr_abs ea e1 e2 hm hr⟩

end

/-! ## Implied and immediate -/

/-- The last row of an instruction that reads: `k` ends it with registers `r` at `pc'`. -/
theorem Lead.last {s u : State} {pc pc' : Word} {r : Regs} (h : Lead s u pc) (addr : Cpu → Word) (k : Byte → Cpu → Cpu)
    (ov : Option Byte)
    (hr : ∀ c : Cpu, c.regs = s.cpu.regs → c.pc = pc → (k (u.rowByte addr ov) c).regs = r ∧ (k (u.rowByte addr ov) c).pc = pc')
    (hk : ∀ v c, (k v c).mip = .fetch ∧ (k v c).pcFrozen = c.pcFrozen ∧ (k v c).errorState = c.errorState ∧
      (k v c).jamFlag = c.jamFlag) :
    Completes s (u.runRow (readRow addr k) ov) pc' r ∧ MemoryKept s (u.runRow (readRow addr k) ov) := by
  have hc := hr u.readSlot.cpu.nextRow (by rw [← h.regs]; simp [Cpu.regs]) (by simp [h.pc])
  refine ⟨⟨?_, ?_, ?_, ?_, ?_, ?_, ?_, ?_, ?_⟩, ⟨?_, ?_, ?_⟩⟩
  · rw [← hc.1]; simp [Cpu.regs]
  · rw [← hc.2]; simp
  all_goals simp [hk, h.frozen, h.errorState, h.jamFlag, h.cfg, h.rom, h.inputs, h.ram, h.colorRam, h.port]

theorem lead_fetch (op : Byte) (s : State) : Lead s (s.runRow fetchRow (some op)) (s.cpu.pc + 1#16) := by
  refine ⟨?_, ?_, ?_, ?_, ?_, ?_, ?_, ?_, ?_, ?_, ?_⟩ <;> simp [fetchRow, Cpu.regs]

/-- `T_IMP`. -/
theorem computes_imp {i : Instr} {f : Cpu → Cpu} {g : Regs → Regs} (hf : ∀ c, OpSpec c (f c) (g c.regs))
    (he : ∀ s, exec i s = .next (s.runInstr [i.opcode] (tImp f))) : Computes i 1 g := by
  intro s
  have hr : s.runInstr [i.opcode] (tImp f) = (s.runRow fetchRow (some i.opcode)).runRow
      (readRow (·.pc) fun _ c => (f c.poll).done) none := by
    simp [State.runInstr, State.runRows_cons2, fetchRow, tImp, dummyRow]
  refine ⟨_, (he s).trans (congrArg _ hr), ?_⟩
  refine (lead_fetch i.opcode s).last _ _ _ (fun c h1 h2 => ⟨?_, ?_⟩) fun v c => ⟨rfl, ?_, ?_, ?_⟩
  · rw [← h1]; exact (hf c.poll).regs
  · exact (hf c.poll).pc.trans h2
  · exact (hf c.poll).frozen
  · exact (hf c.poll).errorState
  · exact (hf c.poll).jamFlag

/-- `T_IMM`: the operand is the byte after the opcode. -/
theorem computes_imm {i : Instr} {b : Byte} {f : ReadOp} {g : Regs → Byte → Regs}
    (hf : ∀ v c, OpSpec c (f v c) (g c.regs v))
    (he : ∀ s, exec i s = .next (s.runInstr [i.opcode, b] (tImm f))) : Computes i 2 (g · b) := by
  intro s
  have hr : s.runInstr [i.opcode, b] (tImm f) = (s.runRow fetchRow (some i.opcode)).runRow
      (readRow (·.pc) fun v c => (f v ({ c with d := v, pc := c.pc + 1 } : Cpu).poll).done) (some b) := by
    simp [State.runInstr, State.runRows_cons2, fetchRow, tImm]
  refine ⟨_, (he s).trans (congrArg _ hr), ?_⟩
  refine (lead_fetch i.opcode s).last _ _ _ (fun c h1 h2 => ⟨?_, ?_⟩) fun v c => ⟨rfl, ?_, ?_, ?_⟩
  · rw [← h1]; exact (hf _ _).regs
  · refine (hf _ _).pc.trans ?_
    show c.pc + 1 = _
    rw [h2]; exact BitVec.add_assoc ..
  · exact (hf _ _).frozen
  · exact (hf _ _).errorState
  · exact (hf _ _).jamFlag

end Sys2Proof.Machine
end

