-- ==== Sys2Proof/Laws/Operations.lean ====
section
/-! SUPPORT. Each data operation of Alu.lean, as the result it leaves in the programmer's registers: what the templates'
lemmas ask of an operation. -/

namespace Sys2Proof.Machine

/-- A field-for-field proof that an operation has the given result. -/
theorem OpSpec.of {c d : Cpu} {r : Regs} (h : d.regs = r) (h1 : d.pc = c.pc) (h2 : d.pcFrozen = c.pcFrozen)
    (h3 : d.errorState = c.errorState) (h4 : d.jamFlag = c.jamFlag) : OpSpec c d r := ⟨h, h1, h2, h3, h4⟩

/-! ## Loads and transfers -/

theorem spec_lda (v : Byte) (c : Cpu) : OpSpec c (aluLda v c) { c.regs with a := v, p := nz c.regs.p v } :=
  .of (by simp [aluLda, Cpu.regs]) rfl rfl rfl rfl
theorem spec_ldx (v : Byte) (c : Cpu) : OpSpec c (aluLdx v c) { c.regs with x := v, p := nz c.regs.p v } :=
  .of (by simp [aluLdx, Cpu.regs]) rfl rfl rfl rfl
theorem spec_ldy (v : Byte) (c : Cpu) : OpSpec c (aluLdy v c) { c.regs with y := v, p := nz c.regs.p v } :=
  .of (by simp [aluLdy, Cpu.regs]) rfl rfl rfl rfl
theorem spec_lax (v : Byte) (c : Cpu) : OpSpec c (aluLax v c) { c.regs with a := v, x := v, p := nz c.regs.p v } :=
  .of (by simp [aluLax, Cpu.regs]) rfl rfl rfl rfl
theorem spec_las (v : Byte) (c : Cpu) : OpSpec c (aluLas v c)
    { c.regs with a := v &&& c.regs.sp, x := v &&& c.regs.sp, sp := v &&& c.regs.sp, p := nz c.regs.p (v &&& c.regs.sp) } :=
  .of (by simp [aluLas, Cpu.regs]) rfl rfl rfl rfl
theorem spec_tax (c : Cpu) : OpSpec c (aluTax c) { c.regs with x := c.regs.a, p := nz c.regs.p c.regs.a } :=
  .of (by simp [aluTax, Cpu.regs]) rfl rfl rfl rfl
theorem spec_tay (c : Cpu) : OpSpec c (aluTay c) { c.regs with y := c.regs.a, p := nz c.regs.p c.regs.a } :=
  .of (by simp [aluTay, Cpu.regs]) rfl rfl rfl rfl
theorem spec_txa (c : Cpu) : OpSpec c (aluTxa c) { c.regs with a := c.regs.x, p := nz c.regs.p c.regs.x } :=
  .of (by simp [aluTxa, Cpu.regs]) rfl rfl rfl rfl
theorem spec_tya (c : Cpu) : OpSpec c (aluTya c) { c.regs with a := c.regs.y, p := nz c.regs.p c.regs.y } :=
  .of (by simp [aluTya, Cpu.regs]) rfl rfl rfl rfl
theorem spec_tsx (c : Cpu) : OpSpec c (aluTsx c) { c.regs with x := c.regs.sp, p := nz c.regs.p c.regs.sp } :=
  .of (by simp [aluTsx, Cpu.regs]) rfl rfl rfl rfl
theorem spec_txs (c : Cpu) : OpSpec c (aluTxs c) { c.regs with sp := c.regs.x } := .of rfl rfl rfl rfl rfl

/-! ## Arithmetic -/

theorem spec_adc (v : Byte) (c : Cpu) : OpSpec c (aluAdc v c) (addResult c.regs v) :=
  .of ((rfl : (aluAdc v c).regs = _).trans (adc_eq c.regs v)) rfl rfl rfl rfl
theorem spec_sbc (v : Byte) (c : Cpu) : OpSpec c (aluSbc v c) (subResult c.regs v) :=
  .of ((rfl : (aluSbc v c).regs = _).trans (sbc_eq c.regs v)) rfl rfl rfl rfl
theorem spec_cmp (v : Byte) (c : Cpu) : OpSpec c (aluCmp v c) { c.regs with p := compareFlags c.regs.p c.regs.a v } :=
  .of (by simp [aluCmp, Cpu.regs, compare_eq]) rfl rfl rfl rfl
theorem spec_cpx (v : Byte) (c : Cpu) : OpSpec c (aluCpx v c) { c.regs with p := compareFlags c.regs.p c.regs.x v } :=
  .of (by simp [aluCpx, Cpu.regs, compare_eq]) rfl rfl rfl rfl
theorem spec_cpy (v : Byte) (c : Cpu) : OpSpec c (aluCpy v c) { c.regs with p := compareFlags c.regs.p c.regs.y v } :=
  .of (by simp [aluCpy, Cpu.regs, compare_eq]) rfl rfl rfl rfl
theorem spec_inx (c : Cpu) : OpSpec c (aluInx c) { c.regs with x := c.regs.x + 1, p := nz c.regs.p (c.regs.x + 1) } :=
  .of (by simp [aluInx, Cpu.regs]) rfl rfl rfl rfl
theorem spec_iny (c : Cpu) : OpSpec c (aluIny c) { c.regs with y := c.regs.y + 1, p := nz c.regs.p (c.regs.y + 1) } :=
  .of (by simp [aluIny, Cpu.regs]) rfl rfl rfl rfl
theorem spec_dex (c : Cpu) : OpSpec c (aluDex c) { c.regs with x := c.regs.x - 1, p := nz c.regs.p (c.regs.x - 1) } :=
  .of (by simp [aluDex, Cpu.regs]) rfl rfl rfl rfl
theorem spec_dey (c : Cpu) : OpSpec c (aluDey c) { c.regs with y := c.regs.y - 1, p := nz c.regs.p (c.regs.y - 1) } :=
  .of (by simp [aluDey, Cpu.regs]) rfl rfl rfl rfl
theorem spec_inc (v : Byte) (c : Cpu) : OpSpec c (aluInc v c).2 { c.regs with p := nz c.regs.p (v + 1) } :=
  .of (by simp [aluInc, Cpu.regs]) rfl rfl rfl rfl
theorem spec_dec (v : Byte) (c : Cpu) : OpSpec c (aluDec v c).2 { c.regs with p := nz c.regs.p (v - 1) } :=
  .of (by simp [aluDec, Cpu.regs]) rfl rfl rfl rfl

/-! ## Logic and shifts -/

theorem spec_and (v : Byte) (c : Cpu) :
    OpSpec c (aluAnd v c) { c.regs with a := c.regs.a &&& v, p := nz c.regs.p (c.regs.a &&& v) } :=
  .of (by simp [aluAnd, Cpu.regs]) rfl rfl rfl rfl
theorem spec_ora (v : Byte) (c : Cpu) :
    OpSpec c (aluOra v c) { c.regs with a := c.regs.a ||| v, p := nz c.regs.p (c.regs.a ||| v) } :=
  .of (by simp [aluOra, Cpu.regs]) rfl rfl rfl rfl
theorem spec_eor (v : Byte) (c : Cpu) :
    OpSpec c (aluEor v c) { c.regs with a := c.regs.a ^^^ v, p := nz c.regs.p (c.regs.a ^^^ v) } :=
  .of (by simp [aluEor, Cpu.regs]) rfl rfl rfl rfl
theorem spec_bit (v : Byte) (c : Cpu) : OpSpec c (aluBit v c)
    { c.regs with p := { c.regs.p with n := v.getLsbD 7, v := v.getLsbD 6, z := decide (c.regs.a &&& v = 0#8) } } :=
  .of (by simp only [aluBit, bitTest, Cpu.regs]; congr 2) rfl rfl rfl rfl
theorem spec_asl (v : Byte) (c : Cpu) :
    OpSpec c (aluAsl v c).2 { c.regs with p := shiftFlags c.regs.p (aslValue v) (v.getLsbD 7) } :=
  .of (by simp [aluAsl, shiftOp, Cpu.regs, asl_fst, shiftFlags, asl_snd]) rfl rfl rfl rfl
theorem spec_lsr (v : Byte) (c : Cpu) :
    OpSpec c (aluLsr v c).2 { c.regs with p := shiftFlags c.regs.p (lsrValue v) (v.getLsbD 0) } :=
  .of (by simp [aluLsr, shiftOp, Cpu.regs, lsr_fst, shiftFlags, lsr_snd]) rfl rfl rfl rfl
theorem spec_rol (v : Byte) (c : Cpu) :
    OpSpec c (aluRol v c).2 { c.regs with p := shiftFlags c.regs.p (rolValue c.regs.p.c v) (v.getLsbD 7) } :=
  .of (by simp [aluRol, shiftOp, Cpu.regs, rol_fst, shiftFlags, rol_snd]) rfl rfl rfl rfl
theorem spec_ror (v : Byte) (c : Cpu) :
    OpSpec c (aluRor v c).2 { c.regs with p := shiftFlags c.regs.p (rorValue c.regs.p.c v) (v.getLsbD 0) } :=
  .of (by simp [aluRor, shiftOp, Cpu.regs, ror_fst, shiftFlags, ror_snd]) rfl rfl rfl rfl

theorem val_asl (v : Byte) (c : Cpu) : (aluAsl v c).1 = aslValue v := asl_fst v
theorem val_lsr (v : Byte) (c : Cpu) : (aluLsr v c).1 = lsrValue v := lsr_fst v
theorem val_rol (v : Byte) (c : Cpu) : (aluRol v c).1 = rolValue c.regs.p.c v := rol_fst c.p.c v
theorem val_ror (v : Byte) (c : Cpu) : (aluRor v c).1 = rorValue c.regs.p.c v := ror_fst c.p.c v

/-- The accumulator form of a class M operation. -/
theorem spec_onA {f : ModifyOp} {val : Regs → Byte → Byte} {fl : Regs → Byte → Flags}
    (hs : ∀ v c, OpSpec c (f v c).2 { c.regs with p := fl c.regs v }) (hv : ∀ v c, (f v c).1 = val c.regs v) (c : Cpu) :
    OpSpec c (onA f c) { c.regs with a := val c.regs c.regs.a, p := fl c.regs c.regs.a } := by
  have h := hs c.a c
  refine .of ?_ h.pc h.frozen h.errorState h.jamFlag
  have e : (onA f c).regs = { (f c.a c).2.regs with a := (f c.a c).1 } := rfl
  rw [e, h.regs, hv]; rfl

/-! ## Flags -/

theorem spec_clc (c : Cpu) : OpSpec c (aluClc c) { c.regs with p := { c.regs.p with c := false } } := .of rfl rfl rfl rfl rfl
theorem spec_sec (c : Cpu) : OpSpec c (aluSec c) { c.regs with p := { c.regs.p with c := true } } := .of rfl rfl rfl rfl rfl
theorem spec_cli (c : Cpu) : OpSpec c (aluCli c) { c.regs with p := { c.regs.p with i := false } } := .of rfl rfl rfl rfl rfl
theorem spec_sei (c : Cpu) : OpSpec c (aluSei c) { c.regs with p := { c.regs.p with i := true } } := .of rfl rfl rfl rfl rfl
theorem spec_cld (c : Cpu) : OpSpec c (aluCld c) { c.regs with p := { c.regs.p with d := false } } := .of rfl rfl rfl rfl rfl
theorem spec_sed (c : Cpu) : OpSpec c (aluSed c) { c.regs with p := { c.regs.p with d := true } } := .of rfl rfl rfl rfl rfl
theorem spec_clv (c : Cpu) : OpSpec c (aluClv c) { c.regs with p := { c.regs.p with v := false } } := .of rfl rfl rfl rfl rfl
theorem spec_id (c : Cpu) : OpSpec c (id c) c.regs := .of rfl rfl rfl rfl rfl
theorem spec_nop (v : Byte) (c : Cpu) : OpSpec c (aluNop v c) c.regs := .of rfl rfl rfl rfl rfl

/-! ## Undocumented -/

theorem spec_slo (v : Byte) (c : Cpu) : OpSpec c (aluSlo v c).2
    { c.regs with a := c.regs.a ||| aslValue v, p := shiftFlags c.regs.p (c.regs.a ||| aslValue v) (v.getLsbD 7) } :=
  .of (by simp [aluSlo, aluOra, carryOnly, Cpu.regs, asl_fst, shiftFlags, asl_snd, nz]) rfl rfl rfl rfl
theorem spec_rla (v : Byte) (c : Cpu) : OpSpec c (aluRla v c).2
    { c.regs with a := c.regs.a &&& rolValue c.regs.p.c v,
                  p := shiftFlags c.regs.p (c.regs.a &&& rolValue c.regs.p.c v) (v.getLsbD 7) } :=
  .of (by simp [aluRla, aluAnd, carryOnly, Cpu.regs, rol_fst, shiftFlags, rol_snd, nz]; congr) rfl rfl rfl rfl
theorem spec_sre (v : Byte) (c : Cpu) : OpSpec c (aluSre v c).2
    { c.regs with a := c.regs.a ^^^ lsrValue v, p := shiftFlags c.regs.p (c.regs.a ^^^ lsrValue v) (v.getLsbD 0) } :=
  .of (by simp [aluSre, aluEor, carryOnly, Cpu.regs, lsr_fst, shiftFlags, lsr_snd, nz]) rfl rfl rfl rfl
theorem spec_rra (v : Byte) (c : Cpu) : OpSpec c (aluRra v c).2
    (addResult { c.regs with p := { c.regs.p with c := v.getLsbD 0 } } (rorValue c.regs.p.c v)) := by
  have h := (spec_adc (ror c.p.c v).1 (carryOnly (ror c.p.c v) c)).regs
  have e : (carryOnly (ror c.p.c v) c).regs = { c.regs with p := { c.regs.p with c := v.getLsbD 0 } } := rfl
  rw [e, ror_fst] at h
  refine .of (.trans ?_ h) rfl rfl rfl rfl
  rw [aluRra, ror_fst]
theorem spec_dcp (v : Byte) (c : Cpu) :
    OpSpec c (aluDcp v c).2 { c.regs with p := compareFlags c.regs.p c.regs.a (v - 1) } := spec_cmp (v - 1) c
theorem spec_isc (v : Byte) (c : Cpu) : OpSpec c (aluIsc v c).2 (subResult c.regs (v + 1)) := spec_sbc (v + 1) c
theorem val_slo (v : Byte) (c : Cpu) : (aluSlo v c).1 = aslValue v := asl_fst v
theorem val_sre (v : Byte) (c : Cpu) : (aluSre v c).1 = lsrValue v := lsr_fst v
theorem val_rla (v : Byte) (c : Cpu) : (aluRla v c).1 = rolValue c.regs.p.c v := rol_fst c.p.c v
theorem val_rra (v : Byte) (c : Cpu) : (aluRra v c).1 = rorValue c.regs.p.c v := ror_fst c.p.c v
theorem spec_anc (v : Byte) (c : Cpu) : OpSpec c (aluAnc v c)
    { c.regs with a := c.regs.a &&& v, p := shiftFlags c.regs.p (c.regs.a &&& v) ((c.regs.a &&& v).getLsbD 7) } :=
  .of (by simp [aluAnc, Cpu.regs, shiftFlags]) rfl rfl rfl rfl
theorem spec_alr (v : Byte) (c : Cpu) : OpSpec c (aluAlr v c)
    { c.regs with a := lsrValue (c.regs.a &&& v),
                  p := shiftFlags c.regs.p (lsrValue (c.regs.a &&& v)) ((c.regs.a &&& v).getLsbD 0) } :=
  .of (by simp [aluAlr, Cpu.regs, lsr_fst, shiftFlags, lsr_snd]) rfl rfl rfl rfl
theorem spec_arr (v : Byte) (c : Cpu) : OpSpec c (aluArr v c) (arrResult c.regs v) :=
  .of ((rfl : (aluArr v c).regs = _).trans (arr_eq c.regs v)) rfl rfl rfl rfl
theorem spec_sbx (v : Byte) (c : Cpu) : OpSpec c (aluSbx v c)
    { c.regs with x := (c.regs.a &&& c.regs.x) - v, p := compareFlags c.regs.p (c.regs.a &&& c.regs.x) v } :=
  .of (by simp [aluSbx, Cpu.regs, compare_eq]) rfl rfl rfl rfl
theorem spec_ane (k v : Byte) (c : Cpu) : OpSpec c (aluAne k v c)
    { c.regs with a := (c.regs.a ||| k) &&& c.regs.x &&& v, p := nz c.regs.p ((c.regs.a ||| k) &&& c.regs.x &&& v) } :=
  .of (by simp [aluAne, Cpu.regs]) rfl rfl rfl rfl
theorem spec_lxa (k v : Byte) (c : Cpu) : OpSpec c (aluLxa k v c)
    { c.regs with a := (c.regs.a ||| k) &&& v, x := (c.regs.a ||| k) &&& v, p := nz c.regs.p ((c.regs.a ||| k) &&& v) } :=
  .of (by simp [aluLxa, Cpu.regs]) rfl rfl rfl rfl
theorem spec_plp (v : Byte) (c : Cpu) : OpSpec c (aluPlp v c) { c.regs with p := Flags.pull v } := .of rfl rfl rfl rfl rfl

end Sys2Proof.Machine
end

