-- ==== Sys2Proof/Laws/PerInstr.lean ====
section
/-! SUPPORT. Statements made of every instruction, one lemma for each constructor of Instr. -/

/-! ## Length: the bytes of an instruction are as many as its opcode byte says (30_encoding.md R110, R120) -/

namespace Sys2Proof.Laws.Length

/-- The encoding has the length that the opcode byte alone gives. -/
def Statement (i : Instr) : Prop := (encode i).length = opcodeLength i.opcode

theorem brk : Statement .brk := (by decide : 1 = opcodeLength 0x00#8)
theorem oraIzx (b : Byte) : Statement (.oraIzx b) := (by decide : 2 = opcodeLength 0x01#8)
theorem jam02 : Statement .jam02 := (by decide : 1 = opcodeLength 0x02#8)
theorem sloIzx (b : Byte) : Statement (.sloIzx b) := (by decide : 2 = opcodeLength 0x03#8)
theorem nopZp04 (b : Byte) : Statement (.nopZp04 b) := (by decide : 2 = opcodeLength 0x04#8)
theorem oraZp (b : Byte) : Statement (.oraZp b) := (by decide : 2 = opcodeLength 0x05#8)
theorem aslZp (b : Byte) : Statement (.aslZp b) := (by decide : 2 = opcodeLength 0x06#8)
theorem sloZp (b : Byte) : Statement (.sloZp b) := (by decide : 2 = opcodeLength 0x07#8)
theorem php : Statement .php := (by decide : 1 = opcodeLength 0x08#8)
theorem oraImm (b : Byte) : Statement (.oraImm b) := (by decide : 2 = opcodeLength 0x09#8)
theorem aslA : Statement .aslA := (by decide : 1 = opcodeLength 0x0A#8)
theorem ancImm0B (b : Byte) : Statement (.ancImm0B b) := (by decide : 2 = opcodeLength 0x0B#8)
theorem nopAbs0C (w : Word) : Statement (.nopAbs0C w) := (by decide : 3 = opcodeLength 0x0C#8)
theorem oraAbs (w : Word) : Statement (.oraAbs w) := (by decide : 3 = opcodeLength 0x0D#8)
theorem aslAbs (w : Word) : Statement (.aslAbs w) := (by decide : 3 = opcodeLength 0x0E#8)
theorem sloAbs (w : Word) : Statement (.sloAbs w) := (by decide : 3 = opcodeLength 0x0F#8)
theorem bpl (b : Byte) : Statement (.bpl b) := (by decide : 2 = opcodeLength 0x10#8)
theorem oraIzy (b : Byte) : Statement (.oraIzy b) := (by decide : 2 = opcodeLength 0x11#8)
theorem jam12 : Statement .jam12 := (by decide : 1 = opcodeLength 0x12#8)
theorem sloIzy (b : Byte) : Statement (.sloIzy b) := (by decide : 2 = opcodeLength 0x13#8)
theorem nopZpx14 (b : Byte) : Statement (.nopZpx14 b) := (by decide : 2 = opcodeLength 0x14#8)
theorem oraZpx (b : Byte) : Statement (.oraZpx b) := (by decide : 2 = opcodeLength 0x15#8)
theorem aslZpx (b : Byte) : Statement (.aslZpx b) := (by decide : 2 = opcodeLength 0x16#8)
theorem sloZpx (b : Byte) : Statement (.sloZpx b) := (by decide : 2 = opcodeLength 0x17#8)
theorem clc : Statement .clc := (by decide : 1 = opcodeLength 0x18#8)
theorem oraAby (w : Word) : Statement (.oraAby w) := (by decide : 3 = opcodeLength 0x19#8)
theorem nopImp1A : Statement .nopImp1A := (by decide : 1 = opcodeLength 0x1A#8)
theorem sloAby (w : Word) : Statement (.sloAby w) := (by decide : 3 = opcodeLength 0x1B#8)
theorem nopAbx1C (w : Word) : Statement (.nopAbx1C w) := (by decide : 3 = opcodeLength 0x1C#8)
theorem oraAbx (w : Word) : Statement (.oraAbx w) := (by decide : 3 = opcodeLength 0x1D#8)
theorem aslAbx (w : Word) : Statement (.aslAbx w) := (by decide : 3 = opcodeLength 0x1E#8)
theorem sloAbx (w : Word) : Statement (.sloAbx w) := (by decide : 3 = opcodeLength 0x1F#8)
theorem jsr (w : Word) : Statement (.jsr w) := (by decide : 3 = opcodeLength 0x20#8)
theorem andIzx (b : Byte) : Statement (.andIzx b) := (by decide : 2 = opcodeLength 0x21#8)
theorem jam22 : Statement .jam22 := (by decide : 1 = opcodeLength 0x22#8)
theorem rlaIzx (b : Byte) : Statement (.rlaIzx b) := (by decide : 2 = opcodeLength 0x23#8)
theorem bitZp (b : Byte) : Statement (.bitZp b) := (by decide : 2 = opcodeLength 0x24#8)
theorem andZp (b : Byte) : Statement (.andZp b) := (by decide : 2 = opcodeLength 0x25#8)
theorem rolZp (b : Byte) : Statement (.rolZp b) := (by decide : 2 = opcodeLength 0x26#8)
theorem rlaZp (b : Byte) : Statement (.rlaZp b) := (by decide : 2 = opcodeLength 0x27#8)
theorem plp : Statement .plp := (by decide : 1 = opcodeLength 0x28#8)
theorem andImm (b : Byte) : Statement (.andImm b) := (by decide : 2 = opcodeLength 0x29#8)
theorem rolA : Statement .rolA := (by decide : 1 = opcodeLength 0x2A#8)
theorem ancImm2B (b : Byte) : Statement (.ancImm2B b) := (by decide : 2 = opcodeLength 0x2B#8)
theorem bitAbs (w : Word) : Statement (.bitAbs w) := (by decide : 3 = opcodeLength 0x2C#8)
theorem andAbs (w : Word) : Statement (.andAbs w) := (by decide : 3 = opcodeLength 0x2D#8)
theorem rolAbs (w : Word) : Statement (.rolAbs w) := (by decide : 3 = opcodeLength 0x2E#8)
theorem rlaAbs (w : Word) : Statement (.rlaAbs w) := (by decide : 3 = opcodeLength 0x2F#8)
theorem bmi (b : Byte) : Statement (.bmi b) := (by decide : 2 = opcodeLength 0x30#8)
theorem andIzy (b : Byte) : Statement (.andIzy b) := (by decide : 2 = opcodeLength 0x31#8)
theorem jam32 : Statement .jam32 := (by decide : 1 = opcodeLength 0x32#8)
theorem rlaIzy (b : Byte) : Statement (.rlaIzy b) := (by decide : 2 = opcodeLength 0x33#8)
theorem nopZpx34 (b : Byte) : Statement (.nopZpx34 b) := (by decide : 2 = opcodeLength 0x34#8)
theorem andZpx (b : Byte) : Statement (.andZpx b) := (by decide : 2 = opcodeLength 0x35#8)
theorem rolZpx (b : Byte) : Statement (.rolZpx b) := (by decide : 2 = opcodeLength 0x36#8)
theorem rlaZpx (b : Byte) : Statement (.rlaZpx b) := (by decide : 2 = opcodeLength 0x37#8)
theorem sec : Statement .sec := (by decide : 1 = opcodeLength 0x38#8)
theorem andAby (w : Word) : Statement (.andAby w) := (by decide : 3 = opcodeLength 0x39#8)
theorem nopImp3A : Statement .nopImp3A := (by decide : 1 = opcodeLength 0x3A#8)
theorem rlaAby (w : Word) : Statement (.rlaAby w) := (by decide : 3 = opcodeLength 0x3B#8)
theorem nopAbx3C (w : Word) : Statement (.nopAbx3C w) := (by decide : 3 = opcodeLength 0x3C#8)
theorem andAbx (w : Word) : Statement (.andAbx w) := (by decide : 3 = opcodeLength 0x3D#8)
theorem rolAbx (w : Word) : Statement (.rolAbx w) := (by decide : 3 = opcodeLength 0x3E#8)
theorem rlaAbx (w : Word) : Statement (.rlaAbx w) := (by decide : 3 = opcodeLength 0x3F#8)
theorem rti : Statement .rti := (by decide : 1 = opcodeLength 0x40#8)
theorem eorIzx (b : Byte) : Statement (.eorIzx b) := (by decide : 2 = opcodeLength 0x41#8)
theorem jam42 : Statement .jam42 := (by decide : 1 = opcodeLength 0x42#8)
theorem sreIzx (b : Byte) : Statement (.sreIzx b) := (by decide : 2 = opcodeLength 0x43#8)
theorem nopZp44 (b : Byte) : Statement (.nopZp44 b) := (by decide : 2 = opcodeLength 0x44#8)
theorem eorZp (b : Byte) : Statement (.eorZp b) := (by decide : 2 = opcodeLength 0x45#8)
theorem lsrZp (b : Byte) : Statement (.lsrZp b) := (by decide : 2 = opcodeLength 0x46#8)
theorem sreZp (b : Byte) : Statement (.sreZp b) := (by decide : 2 = opcodeLength 0x47#8)
theorem pha : Statement .pha := (by decide : 1 = opcodeLength 0x48#8)
theorem eorImm (b : Byte) : Statement (.eorImm b) := (by decide : 2 = opcodeLength 0x49#8)
theorem lsrA : Statement .lsrA := (by decide : 1 = opcodeLength 0x4A#8)
theorem alrImm (b : Byte) : Statement (.alrImm b) := (by decide : 2 = opcodeLength 0x4B#8)
theorem jmpAbs (w : Word) : Statement (.jmpAbs w) := (by decide : 3 = opcodeLength 0x4C#8)
theorem eorAbs (w : Word) : Statement (.eorAbs w) := (by decide : 3 = opcodeLength 0x4D#8)
theorem lsrAbs (w : Word) : Statement (.lsrAbs w) := (by decide : 3 = opcodeLength 0x4E#8)
theorem sreAbs (w : Word) : Statement (.sreAbs w) := (by decide : 3 = opcodeLength 0x4F#8)
theorem bvc (b : Byte) : Statement (.bvc b) := (by decide : 2 = opcodeLength 0x50#8)
theorem eorIzy (b : Byte) : Statement (.eorIzy b) := (by decide : 2 = opcodeLength 0x51#8)
theorem jam52 : Statement .jam52 := (by decide : 1 = opcodeLength 0x52#8)
theorem sreIzy (b : Byte) : Statement (.sreIzy b) := (by decide : 2 = opcodeLength 0x53#8)
theorem nopZpx54 (b : Byte) : Statement (.nopZpx54 b) := (by decide : 2 = opcodeLength 0x54#8)
theorem eorZpx (b : Byte) : Statement (.eorZpx b) := (by decide : 2 = opcodeLength 0x55#8)
theorem lsrZpx (b : Byte) : Statement (.lsrZpx b) := (by decide : 2 = opcodeLength 0x56#8)
theorem sreZpx (b : Byte) : Statement (.sreZpx b) := (by decide : 2 = opcodeLength 0x57#8)
theorem cli : Statement .cli := (by decide : 1 = opcodeLength 0x58#8)
theorem eorAby (w : Word) : Statement (.eorAby w) := (by decide : 3 = opcodeLength 0x59#8)
theorem nopImp5A : Statement .nopImp5A := (by decide : 1 = opcodeLength 0x5A#8)
theorem sreAby (w : Word) : Statement (.sreAby w) := (by decide : 3 = opcodeLength 0x5B#8)
theorem nopAbx5C (w : Word) : Statement (.nopAbx5C w) := (by decide : 3 = opcodeLength 0x5C#8)
theorem eorAbx (w : Word) : Statement (.eorAbx w) := (by decide : 3 = opcodeLength 0x5D#8)
theorem lsrAbx (w : Word) : Statement (.lsrAbx w) := (by decide : 3 = opcodeLength 0x5E#8)
theorem sreAbx (w : Word) : Statement (.sreAbx w) := (by decide : 3 = opcodeLength 0x5F#8)
theorem rts : Statement .rts := (by decide : 1 = opcodeLength 0x60#8)
theorem adcIzx (b : Byte) : Statement (.adcIzx b) := (by decide : 2 = opcodeLength 0x61#8)
theorem jam62 : Statement .jam62 := (by decide : 1 = opcodeLength 0x62#8)
theorem rraIzx (b : Byte) : Statement (.rraIzx b) := (by decide : 2 = opcodeLength 0x63#8)
theorem nopZp64 (b : Byte) : Statement (.nopZp64 b) := (by decide : 2 = opcodeLength 0x64#8)
theorem adcZp (b : Byte) : Statement (.adcZp b) := (by decide : 2 = opcodeLength 0x65#8)
theorem rorZp (b : Byte) : Statement (.rorZp b) := (by decide : 2 = opcodeLength 0x66#8)
theorem rraZp (b : Byte) : Statement (.rraZp b) := (by decide : 2 = opcodeLength 0x67#8)
theorem pla : Statement .pla := (by decide : 1 = opcodeLength 0x68#8)
theorem adcImm (b : Byte) : Statement (.adcImm b) := (by decide : 2 = opcodeLength 0x69#8)
theorem rorA : Statement .rorA := (by decide : 1 = opcodeLength 0x6A#8)
theorem arrImm (b : Byte) : Statement (.arrImm b) := (by decide : 2 = opcodeLength 0x6B#8)
theorem jmpInd (w : Word) : Statement (.jmpInd w) := (by decide : 3 = opcodeLength 0x6C#8)
theorem adcAbs (w : Word) : Statement (.adcAbs w) := (by decide : 3 = opcodeLength 0x6D#8)
theorem rorAbs (w : Word) : Statement (.rorAbs w) := (by decide : 3 = opcodeLength 0x6E#8)
theorem rraAbs (w : Word) : Statement (.rraAbs w) := (by decide : 3 = opcodeLength 0x6F#8)
theorem bvs (b : Byte) : Statement (.bvs b) := (by decide : 2 = opcodeLength 0x70#8)
theorem adcIzy (b : Byte) : Statement (.adcIzy b) := (by decide : 2 = opcodeLength 0x71#8)
theorem jam72 : Statement .jam72 := (by decide : 1 = opcodeLength 0x72#8)
theorem rraIzy (b : Byte) : Statement (.rraIzy b) := (by decide : 2 = opcodeLength 0x73#8)
theorem nopZpx74 (b : Byte) : Statement (.nopZpx74 b) := (by decide : 2 = opcodeLength 0x74#8)
theorem adcZpx (b : Byte) : Statement (.adcZpx b) := (by decide : 2 = opcodeLength 0x75#8)
theorem rorZpx (b : Byte) : Statement (.rorZpx b) := (by decide : 2 = opcodeLength 0x76#8)
theorem rraZpx (b : Byte) : Statement (.rraZpx b) := (by decide : 2 = opcodeLength 0x77#8)
theorem sei : Statement .sei := (by decide : 1 = opcodeLength 0x78#8)
theorem adcAby (w : Word) : Statement (.adcAby w) := (by decide : 3 = opcodeLength 0x79#8)
theorem nopImp7A : Statement .nopImp7A := (by decide : 1 = opcodeLength 0x7A#8)
theorem rraAby (w : Word) : Statement (.rraAby w) := (by decide : 3 = opcodeLength 0x7B#8)
theorem nopAbx7C (w : Word) : Statement (.nopAbx7C w) := (by decide : 3 = opcodeLength 0x7C#8)
theorem adcAbx (w : Word) : Statement (.adcAbx w) := (by decide : 3 = opcodeLength 0x7D#8)
theorem rorAbx (w : Word) : Statement (.rorAbx w) := (by decide : 3 = opcodeLength 0x7E#8)
theorem rraAbx (w : Word) : Statement (.rraAbx w) := (by decide : 3 = opcodeLength 0x7F#8)
theorem nopImm80 (b : Byte) : Statement (.nopImm80 b) := (by decide : 2 = opcodeLength 0x80#8)
theorem staIzx (b : Byte) : Statement (.staIzx b) := (by decide : 2 = opcodeLength 0x81#8)
theorem nopImm82 (b : Byte) : Statement (.nopImm82 b) := (by decide : 2 = opcodeLength 0x82#8)
theorem saxIzx (b : Byte) : Statement (.saxIzx b) := (by decide : 2 = opcodeLength 0x83#8)
theorem styZp (b : Byte) : Statement (.styZp b) := (by decide : 2 = opcodeLength 0x84#8)
theorem staZp (b : Byte) : Statement (.staZp b) := (by decide : 2 = opcodeLength 0x85#8)
theorem stxZp (b : Byte) : Statement (.stxZp b) := (by decide : 2 = opcodeLength 0x86#8)
theorem saxZp (b : Byte) : Statement (.saxZp b) := (by decide : 2 = opcodeLength 0x87#8)
theorem dey : Statement .dey := (by decide : 1 = opcodeLength 0x88#8)
theorem nopImm89 (b : Byte) : Statement (.nopImm89 b) := (by decide : 2 = opcodeLength 0x89#8)
theorem txa : Statement .txa := (by decide : 1 = opcodeLength 0x8A#8)
theorem aneImm (b : Byte) : Statement (.aneImm b) := (by decide : 2 = opcodeLength 0x8B#8)
theorem styAbs (w : Word) : Statement (.styAbs w) := (by decide : 3 = opcodeLength 0x8C#8)
theorem staAbs (w : Word) : Statement (.staAbs w) := (by decide : 3 = opcodeLength 0x8D#8)
theorem stxAbs (w : Word) : Statement (.stxAbs w) := (by decide : 3 = opcodeLength 0x8E#8)
theorem saxAbs (w : Word) : Statement (.saxAbs w) := (by decide : 3 = opcodeLength 0x8F#8)
theorem bcc (b : Byte) : Statement (.bcc b) := (by decide : 2 = opcodeLength 0x90#8)
theorem staIzy (b : Byte) : Statement (.staIzy b) := (by decide : 2 = opcodeLength 0x91#8)
theorem jam92 : Statement .jam92 := (by decide : 1 = opcodeLength 0x92#8)
theorem shaIzy (b : Byte) : Statement (.shaIzy b) := (by decide : 2 = opcodeLength 0x93#8)
theorem styZpx (b : Byte) : Statement (.styZpx b) := (by decide : 2 = opcodeLength 0x94#8)
theorem staZpx (b : Byte) : Statement (.staZpx b) := (by decide : 2 = opcodeLength 0x95#8)
theorem stxZpy (b : Byte) : Statement (.stxZpy b) := (by decide : 2 = opcodeLength 0x96#8)
theorem saxZpy (b : Byte) : Statement (.saxZpy b) := (by decide : 2 = opcodeLength 0x97#8)
theorem tya : Statement .tya := (by decide : 1 = opcodeLength 0x98#8)
theorem staAby (w : Word) : Statement (.staAby w) := (by decide : 3 = opcodeLength 0x99#8)
theorem txs : Statement .txs := (by decide : 1 = opcodeLength 0x9A#8)
theorem tasAby (w : Word) : Statement (.tasAby w) := (by decide : 3 = opcodeLength 0x9B#8)
theorem shyAbx (w : Word) : Statement (.shyAbx w) := (by decide : 3 = opcodeLength 0x9C#8)
theorem staAbx (w : Word) : Statement (.staAbx w) := (by decide : 3 = opcodeLength 0x9D#8)
theorem shxAby (w : Word) : Statement (.shxAby w) := (by decide : 3 = opcodeLength 0x9E#8)
theorem shaAby (w : Word) : Statement (.shaAby w) := (by decide : 3 = opcodeLength 0x9F#8)
theorem ldyImm (b : Byte) : Statement (.ldyImm b) := (by decide : 2 = opcodeLength 0xA0#8)
theorem ldaIzx (b : Byte) : Statement (.ldaIzx b) := (by decide : 2 = opcodeLength 0xA1#8)
theorem ldxImm (b : Byte) : Statement (.ldxImm b) := (by decide : 2 = opcodeLength 0xA2#8)
theorem laxIzx (b : Byte) : Statement (.laxIzx b) := (by decide : 2 = opcodeLength 0xA3#8)
theorem ldyZp (b : Byte) : Statement (.ldyZp b) := (by decide : 2 = opcodeLength 0xA4#8)
theorem ldaZp (b : Byte) : Statement (.ldaZp b) := (by decide : 2 = opcodeLength 0xA5#8)
theorem ldxZp (b : Byte) : Statement (.ldxZp b) := (by decide : 2 = opcodeLength 0xA6#8)
theorem laxZp (b : Byte) : Statement (.laxZp b) := (by decide : 2 = opcodeLength 0xA7#8)
theorem tay : Statement .tay := (by decide : 1 = opcodeLength 0xA8#8)
theorem ldaImm (b : Byte) : Statement (.ldaImm b) := (by decide : 2 = opcodeLength 0xA9#8)
theorem tax : Statement .tax := (by decide : 1 = opcodeLength 0xAA#8)
theorem lxaImm (b : Byte) : Statement (.lxaImm b) := (by decide : 2 = opcodeLength 0xAB#8)
theorem ldyAbs (w : Word) : Statement (.ldyAbs w) := (by decide : 3 = opcodeLength 0xAC#8)
theorem ldaAbs (w : Word) : Statement (.ldaAbs w) := (by decide : 3 = opcodeLength 0xAD#8)
theorem ldxAbs (w : Word) : Statement (.ldxAbs w) := (by decide : 3 = opcodeLength 0xAE#8)
theorem laxAbs (w : Word) : Statement (.laxAbs w) := (by decide : 3 = opcodeLength 0xAF#8)
theorem bcs (b : Byte) : Statement (.bcs b) := (by decide : 2 = opcodeLength 0xB0#8)
theorem ldaIzy (b : Byte) : Statement (.ldaIzy b) := (by decide : 2 = opcodeLength 0xB1#8)
theorem jamB2 : Statement .jamB2 := (by decide : 1 = opcodeLength 0xB2#8)
theorem laxIzy (b : Byte) : Statement (.laxIzy b) := (by decide : 2 = opcodeLength 0xB3#8)
theorem ldyZpx (b : Byte) : Statement (.ldyZpx b) := (by decide : 2 = opcodeLength 0xB4#8)
theorem ldaZpx (b : Byte) : Statement (.ldaZpx b) := (by decide : 2 = opcodeLength 0xB5#8)
theorem ldxZpy (b : Byte) : Statement (.ldxZpy b) := (by decide : 2 = opcodeLength 0xB6#8)
theorem laxZpy (b : Byte) : Statement (.laxZpy b) := (by decide : 2 = opcodeLength 0xB7#8)
theorem clv : Statement .clv := (by decide : 1 = opcodeLength 0xB8#8)
theorem ldaAby (w : Word) : Statement (.ldaAby w) := (by decide : 3 = opcodeLength 0xB9#8)
theorem tsx : Statement .tsx := (by decide : 1 = opcodeLength 0xBA#8)
theorem lasAby (w : Word) : Statement (.lasAby w) := (by decide : 3 = opcodeLength 0xBB#8)
theorem ldyAbx (w : Word) : Statement (.ldyAbx w) := (by decide : 3 = opcodeLength 0xBC#8)
theorem ldaAbx (w : Word) : Statement (.ldaAbx w) := (by decide : 3 = opcodeLength 0xBD#8)
theorem ldxAby (w : Word) : Statement (.ldxAby w) := (by decide : 3 = opcodeLength 0xBE#8)
theorem laxAby (w : Word) : Statement (.laxAby w) := (by decide : 3 = opcodeLength 0xBF#8)
theorem cpyImm (b : Byte) : Statement (.cpyImm b) := (by decide : 2 = opcodeLength 0xC0#8)
theorem cmpIzx (b : Byte) : Statement (.cmpIzx b) := (by decide : 2 = opcodeLength 0xC1#8)
theorem nopImmC2 (b : Byte) : Statement (.nopImmC2 b) := (by decide : 2 = opcodeLength 0xC2#8)
theorem dcpIzx (b : Byte) : Statement (.dcpIzx b) := (by decide : 2 = opcodeLength 0xC3#8)
theorem cpyZp (b : Byte) : Statement (.cpyZp b) := (by decide : 2 = opcodeLength 0xC4#8)
theorem cmpZp (b : Byte) : Statement (.cmpZp b) := (by decide : 2 = opcodeLength 0xC5#8)
theorem decZp (b : Byte) : Statement (.decZp b) := (by decide : 2 = opcodeLength 0xC6#8)
theorem dcpZp (b : Byte) : Statement (.dcpZp b) := (by decide : 2 = opcodeLength 0xC7#8)
theorem iny : Statement .iny := (by decide : 1 = opcodeLength 0xC8#8)
theorem cmpImm (b : Byte) : Statement (.cmpImm b) := (by decide : 2 = opcodeLength 0xC9#8)
theorem dex : Statement .dex := (by decide : 1 = opcodeLength 0xCA#8)
theorem sbxImm (b : Byte) : Statement (.sbxImm b) := (by decide : 2 = opcodeLength 0xCB#8)
theorem cpyAbs (w : Word) : Statement (.cpyAbs w) := (by decide : 3 = opcodeLength 0xCC#8)
theorem cmpAbs (w : Word) : Statement (.cmpAbs w) := (by decide : 3 = opcodeLength 0xCD#8)
theorem decAbs (w : Word) : Statement (.decAbs w) := (by decide : 3 = opcodeLength 0xCE#8)
theorem dcpAbs (w : Word) : Statement (.dcpAbs w) := (by decide : 3 = opcodeLength 0xCF#8)
theorem bne (b : Byte) : Statement (.bne b) := (by decide : 2 = opcodeLength 0xD0#8)
theorem cmpIzy (b : Byte) : Statement (.cmpIzy b) := (by decide : 2 = opcodeLength 0xD1#8)
theorem jamD2 : Statement .jamD2 := (by decide : 1 = opcodeLength 0xD2#8)
theorem dcpIzy (b : Byte) : Statement (.dcpIzy b) := (by decide : 2 = opcodeLength 0xD3#8)
theorem nopZpxD4 (b : Byte) : Statement (.nopZpxD4 b) := (by decide : 2 = opcodeLength 0xD4#8)
theorem cmpZpx (b : Byte) : Statement (.cmpZpx b) := (by decide : 2 = opcodeLength 0xD5#8)
theorem decZpx (b : Byte) : Statement (.decZpx b) := (by decide : 2 = opcodeLength 0xD6#8)
theorem dcpZpx (b : Byte) : Statement (.dcpZpx b) := (by decide : 2 = opcodeLength 0xD7#8)
theorem cld : Statement .cld := (by decide : 1 = opcodeLength 0xD8#8)
theorem cmpAby (w : Word) : Statement (.cmpAby w) := (by decide : 3 = opcodeLength 0xD9#8)
theorem nopImpDA : Statement .nopImpDA := (by decide : 1 = opcodeLength 0xDA#8)
theorem dcpAby (w : Word) : Statement (.dcpAby w) := (by decide : 3 = opcodeLength 0xDB#8)
theorem nopAbxDC (w : Word) : Statement (.nopAbxDC w) := (by decide : 3 = opcodeLength 0xDC#8)
theorem cmpAbx (w : Word) : Statement (.cmpAbx w) := (by decide : 3 = opcodeLength 0xDD#8)
theorem decAbx (w : Word) : Statement (.decAbx w) := (by decide : 3 = opcodeLength 0xDE#8)
theorem dcpAbx (w : Word) : Statement (.dcpAbx w) := (by decide : 3 = opcodeLength 0xDF#8)
theorem cpxImm (b : Byte) : Statement (.cpxImm b) := (by decide : 2 = opcodeLength 0xE0#8)
theorem sbcIzx (b : Byte) : Statement (.sbcIzx b) := (by decide : 2 = opcodeLength 0xE1#8)
theorem nopImmE2 (b : Byte) : Statement (.nopImmE2 b) := (by decide : 2 = opcodeLength 0xE2#8)
theorem iscIzx (b : Byte) : Statement (.iscIzx b) := (by decide : 2 = opcodeLength 0xE3#8)
theorem cpxZp (b : Byte) : Statement (.cpxZp b) := (by decide : 2 = opcodeLength 0xE4#8)
theorem sbcZp (b : Byte) : Statement (.sbcZp b) := (by decide : 2 = opcodeLength 0xE5#8)
theorem incZp (b : Byte) : Statement (.incZp b) := (by decide : 2 = opcodeLength 0xE6#8)
theorem iscZp (b : Byte) : Statement (.iscZp b) := (by decide : 2 = opcodeLength 0xE7#8)
theorem inx : Statement .inx := (by decide : 1 = opcodeLength 0xE8#8)
theorem sbcImm (b : Byte) : Statement (.sbcImm b) := (by decide : 2 = opcodeLength 0xE9#8)
theorem nop : Statement .nop := (by decide : 1 = opcodeLength 0xEA#8)
theorem usbcImm (b : Byte) : Statement (.usbcImm b) := (by decide : 2 = opcodeLength 0xEB#8)
theorem cpxAbs (w : Word) : Statement (.cpxAbs w) := (by decide : 3 = opcodeLength 0xEC#8)
theorem sbcAbs (w : Word) : Statement (.sbcAbs w) := (by decide : 3 = opcodeLength 0xED#8)
theorem incAbs (w : Word) : Statement (.incAbs w) := (by decide : 3 = opcodeLength 0xEE#8)
theorem iscAbs (w : Word) : Statement (.iscAbs w) := (by decide : 3 = opcodeLength 0xEF#8)
theorem beq (b : Byte) : Statement (.beq b) := (by decide : 2 = opcodeLength 0xF0#8)
theorem sbcIzy (b : Byte) : Statement (.sbcIzy b) := (by decide : 2 = opcodeLength 0xF1#8)
theorem jamF2 : Statement .jamF2 := (by decide : 1 = opcodeLength 0xF2#8)
theorem iscIzy (b : Byte) : Statement (.iscIzy b) := (by decide : 2 = opcodeLength 0xF3#8)
theorem nopZpxF4 (b : Byte) : Statement (.nopZpxF4 b) := (by decide : 2 = opcodeLength 0xF4#8)
theorem sbcZpx (b : Byte) : Statement (.sbcZpx b) := (by decide : 2 = opcodeLength 0xF5#8)
theorem incZpx (b : Byte) : Statement (.incZpx b) := (by decide : 2 = opcodeLength 0xF6#8)
theorem iscZpx (b : Byte) : Statement (.iscZpx b) := (by decide : 2 = opcodeLength 0xF7#8)
theorem sed : Statement .sed := (by decide : 1 = opcodeLength 0xF8#8)
theorem sbcAby (w : Word) : Statement (.sbcAby w) := (by decide : 3 = opcodeLength 0xF9#8)
theorem nopImpFA : Statement .nopImpFA := (by decide : 1 = opcodeLength 0xFA#8)
theorem iscAby (w : Word) : Statement (.iscAby w) := (by decide : 3 = opcodeLength 0xFB#8)
theorem nopAbxFC (w : Word) : Statement (.nopAbxFC w) := (by decide : 3 = opcodeLength 0xFC#8)
theorem sbcAbx (w : Word) : Statement (.sbcAbx w) := (by decide : 3 = opcodeLength 0xFD#8)
theorem incAbx (w : Word) : Statement (.incAbx w) := (by decide : 3 = opcodeLength 0xFE#8)
theorem iscAbx (w : Word) : Statement (.iscAbx w) := (by decide : 3 = opcodeLength 0xFF#8)

end Sys2Proof.Laws.Length
end

