-- ==== Sys2Proof/Laws/Stack.lean ====
section
/-! SUPPORT. Page 1 on the bus: it is RAM in every banking mode (20_memory.md R74, R76), so a push changes one byte of RAM
and nothing else, and a pull reads RAM without a side effect. -/

namespace Sys2Proof.Machine

@[simp] theorem stackCell_toNat (p : Byte) : (cat 0x01#8 p).toNat = 256 + p.toNat := by
  rw [cat_toNat]; rfl

@[simp] theorem State.portAt_stack (s : State) (p : Byte) : s.portAt (cat 0x01#8 p) = false := by
  simp [State.portAt]; omega

theorem pageOf_stack (p : Byte) : pageOf (cat 0x01#8 p) = 0 := by
  have := p.isLt; simp only [pageOf, stackCell_toNat]; omega

@[simp] theorem State.peekSource_stack (s : State) (p : Byte) : s.peekSource (cat 0x01#8 p) = .ram := by
  simp [State.peekSource, pageOf_stack, peekSrc, peekUltimax, peekNormal]

@[simp] theorem State.pokeTarget_stack (s : State) (p : Byte) : s.pokeTarget (cat 0x01#8 p) = .ram := by
  simp [State.pokeTarget, pageOf_stack, Machine.pokeTarget, pokeUltimax]

@[simp] theorem State.ramAt_stack (s : State) (p : Byte) : s.ramAt (cat 0x01#8 p) = true := by simp [State.ramAt]

@[simp] theorem State.colorAt_stack (s : State) (p : Byte) : s.colorAt (cat 0x01#8 p) = false := by simp [State.colorAt]

/-- A pull's read. -/
@[simp] theorem State.busRead_stack (s : State) (p : Byte) :
    s.busRead (cat 0x01#8 p) = (s.ram.read (256 + p.toNat), s) := by simp [State.busRead]

/-- A push's write. -/
@[simp] theorem State.busWrite_stack (s : State) (p v : Byte) :
    s.busWrite (cat 0x01#8 p) v = { s with ram := s.ram.write (256 + p.toNat) v } := by simp [State.busWrite]

/-- A pull's read in the next CPU cycle: stalls do not change RAM. -/
@[simp] theorem State.nextRead_stack (s : State) (p : Byte) : s.nextRead (cat 0x01#8 p) = s.ram.read (256 + p.toNat) := by
  simp [State.nextRead]

end Sys2Proof.Machine
end

