-- ==== Sys2Proof/Tests/Slice0.lean ====
section
/-! SUPPORT. Tests of the model against the spec's own worked examples (95_test_vectors.md; each theorem names its vectors),
the smoke test of the well-formedness checks, decoding of words written out from the opcode map (30_encoding.md R115), and
a witness for the hypotheses of every obligation that has any. -/

set_option maxRecDepth 20000

open Sys2Proof Sys2Proof.Machine

/-! ## Well-formedness: each check refuses an ill-formed term -/

/-- R121: a branch target out of range is refused, the ends of the range are not. -/
theorem test_branchOperand :
    branchOperand 0xC000 0xC081 = some 0x7F ∧ branchOperand 0xC000 0xC082 = none ∧
    branchOperand 0xC000 0xBF82 = some 0x80 ∧ branchOperand 0xC000 0xBF81 = none := by decide

/-- A GCR table with a code twice, and one that is too short. -/
theorem test_gcrOk :
    Config.gcrOk { Config.default with gcrTable := Config.standardGcr.set 3 0b01010 } = false ∧
    Config.gcrOk { Config.default with gcrTable := Config.standardGcr.tail } = false ∧
    Config.default.gcrOk = true := by decide

/-- A transition table of fifteen entries. -/
theorem test_glueOk :
    Config.glueOk { Config.default with glueTransition := List.replicate 15 0 } = false ∧
    Config.glueOk { Config.default with glueTransition := List.replicate 16 0 } = true := by decide

/-- A list of 46 write delays. -/
theorem test_vicDelayOk :
    Config.vicDelayOk { Config.default with vicWriteDelay := List.replicate 46 1 } = false ∧
    Config.default.vicDelayOk = true := by decide

/-- A layout of the CIA pipeline for the tests: its chains one after another. -/
def benchBits : CiaDelayBits where
  countA := 0
  countB := 4
  loadA := 8
  loadB := 11
  oneShotA := 14
  oneShotB := 15
  serClk := 16
  serLoad := 19
  setInt := 21
  clearInt := 23
  setIcr := 24
  clearIcr := 26
  ackIcr := 29
  readIcr := 31
  todInt := 33
  pb6Low := 34
  pb7Low := 36

/-- The configuration of the tests of CIAs. -/
def benchCfg : Config := { Config.default with ciaDelayBits := benchBits, glueTransition := List.replicate 16 0 }

/-- Two chains that meet, and one that leaves the word. -/
theorem test_ciaBitsOk :
    Config.ciaBitsOk { benchCfg with ciaDelayBits := { benchBits with loadA := 3 } } = false ∧
    Config.ciaBitsOk { benchCfg with ciaDelayBits := { benchBits with pb7Low := 63 } } = false ∧
    benchCfg.ciaBitsOk = true := by decide

/-- A C64 cycle that lasts no time; and the whole record. -/
theorem test_durationOk :
    Config.durationOk { benchCfg with cycleDuration := 0 } = false ∧
    Config.wellFormed { benchCfg with cycleDuration := 0 } = false ∧ benchCfg.wellFormed = true := by decide

/-! ## Decoding: one word of each family, written out from the opcode map -/

/-- R115, with the words as the host numbers them (R86: the low operand byte first). -/
theorem test_decodeTableWord :
    decodeTableWord 16 0x80A9 = some (.ldaImm 0x80) ∧ decodeTableWord 24 0x12348D = some (.staAbs 0x1234) ∧
    decodeTableWord 8 0xAA = some .tax ∧ decodeTableWord 8 0x68 = some .pla ∧
    decodeTableWord 16 0x2071 = some (.adcIzy 0x20) ∧ decodeTableWord 24 0xC000DE = some (.decAbx 0xC000) ∧
    decodeTableWord 16 0x3341 = some (.eorIzx 0x33) ∧ decodeTableWord 8 0x6A = some .rorA ∧
    decodeTableWord 24 0x02FF6C = some (.jmpInd 0x02FF) ∧ decodeTableWord 16 0xFDD0 = some (.bne 0xFD) ∧
    decodeTableWord 8 0x78 = some .sei ∧ decodeTableWord 16 0x1007 = some (.sloZp 0x10) ∧
    decodeTableWord 16 0x44B7 = some (.laxZpy 0x44) ∧ decodeTableWord 8 0xF2 = some .jamF2 ∧
    decodeTableWord 24 0x10F09B = some (.tasAby 0x10F0) ∧ decodeTableWord 24 0x1234BE = some (.ldxAby 0x1234) := by
  decide

/-- A word cut short is refused, not read as a shorter instruction. -/
theorem test_truncated :
    decode [] = .error .truncated ∧ decode [0xA9] = .error .truncated ∧ decode [0x4C, 0x00] = .error .truncated := by decide

/-! ## Instructions: the vectors of 95_test_vectors.md section 2 on its flat bench (section 0) -/

/-- Flags from the byte that `PLP` would pull. -/
def fl (b : Byte) : Flags := Flags.pull b

/-- The flat bench: a 6502 with RAM on the whole address space. -/
def bench (r : Regs) (pc : Word) (ram : Memory) : State :=
  { State.reset with
    cfg := { Config.default with cpuModel := .mos6502, aneMagic := 0xEE, lxaMagic := 0xEE }
    cpu := { State.reset.cpu with a := r.a, x := r.x, y := r.y, sp := r.sp, p := r.p, pc := pc }
    port := { ProcPort.reset with dir := 0x07 }
    ram := ram }

/-- One step from `r`, `pc`, `ram` gives `r'`, `pc'` after `n` cycles, and RAM differs in the cells `stored` alone. -/
def runs (r : Regs) (pc : Word) (ram : Memory) (r' : Regs) (pc' : Word) (n : Nat) (stored : Memory) : Bool :=
  match step (bench r pc ram) with
  | .next t => decide (t.cpu.regs = r') && decide (t.cpu.pc = pc') && decide (t.cpu.lines.cycle = BitVec.ofNat 64 n) &&
      decide (t.ram = stored.foldl (fun m c => m.write c.1 c.2) ram)
  | .fault _ => false
  | .refused _ => false

/-- Vectors V2, V3, V4, V5, V6 (41 R200 to R202: page cross, pointers that wrap in page zero, zero-page wrap, Z). -/
theorem test_loads :
    runs ⟨0x00, 0x01, 0x00, 0xFF, fl 0x00⟩ 0xC000 [(0x1000, 0x11), (0x1100, 0x80), (0xC000, 0xBD), (0xC001, 0xFF), (0xC002, 0x10)]
      ⟨0x80, 0x01, 0x00, 0xFF, fl 0x80⟩ 0xC003 5 [] ∧
    runs ⟨0x00, 0x00, 0x10, 0xFF, fl 0x00⟩ 0xC000 [(0x0000, 0x12), (0x00FF, 0xF8), (0x1208, 0x99), (0x1308, 0x42), (0xC000, 0xB1), (0xC001, 0xFF)]
      ⟨0x42, 0x00, 0x10, 0xFF, fl 0x00⟩ 0xC002 6 [] ∧
    runs ⟨0x00, 0x0F, 0x00, 0xFF, fl 0x00⟩ 0xC000 [(0x0000, 0x12), (0x00FF, 0x34), (0x1234, 0x7F), (0xC000, 0xA1), (0xC001, 0xF0)]
      ⟨0x7F, 0x0F, 0x00, 0xFF, fl 0x00⟩ 0xC002 6 [] ∧
    runs ⟨0x00, 0x00, 0x20, 0xFF, fl 0x00⟩ 0xC000 [(0x0010, 0xAA), (0x0110, 0x55), (0xC000, 0xB6), (0xC001, 0xF0)]
      ⟨0x00, 0xAA, 0x20, 0xFF, fl 0x80⟩ 0xC002 4 [] ∧
    runs ⟨0x00, 0x01, 0x00, 0xFF, fl 0x00⟩ 0xC000 [(0xC000, 0xBC), (0xC001, 0xFF), (0xC002, 0x10)]
      ⟨0x00, 0x01, 0x00, 0xFF, fl 0x02⟩ 0xC003 5 [] := by decide

/-- Vectors V7, V8, V9, V80 (41 R203, R204, 47 R304: the store of an indexed form, zero-page wrap, SAX). -/
theorem test_stores :
    runs ⟨0x77, 0x01, 0x00, 0xFF, fl 0x00⟩ 0xC000 [(0xC000, 0x9D), (0xC001, 0xFF), (0xC002, 0x10)]
      ⟨0x77, 0x01, 0x00, 0xFF, fl 0x00⟩ 0xC003 5 [(0x1100, 0x77)] ∧
    runs ⟨0x5A, 0x00, 0x01, 0xFF, fl 0x00⟩ 0xC000 [(0x0021, 0x40), (0xC000, 0x91), (0xC001, 0x20)]
      ⟨0x5A, 0x00, 0x01, 0xFF, fl 0x00⟩ 0xC002 6 [(0x4001, 0x5A)] ∧
    runs ⟨0x00, 0x5A, 0x20, 0xFF, fl 0x00⟩ 0xC000 [(0xC000, 0x96), (0xC001, 0xF0)]
      ⟨0x00, 0x5A, 0x20, 0xFF, fl 0x00⟩ 0xC002 4 [(0x0010, 0x5A)] ∧
    runs ⟨0xF0, 0x3C, 0x00, 0xFF, fl 0x00⟩ 0xC000 [(0xC000, 0x87), (0xC001, 0x10)]
      ⟨0xF0, 0x3C, 0x00, 0xFF, fl 0x00⟩ 0xC002 3 [(0x0010, 0x30)] := by decide

/-- Vectors V10, V11, V12, V13 (41 R206, R209 to R211). -/
theorem test_transfers :
    runs ⟨0x80, 0x00, 0x00, 0xFF, fl 0x00⟩ 0xC000 [(0xC000, 0xAA)]
      ⟨0x80, 0x80, 0x00, 0xFF, fl 0x80⟩ 0xC001 2 [] ∧
    runs ⟨0x09, 0x00, 0x00, 0xFF, fl 0x00⟩ 0xC000 [(0xC000, 0x98)]
      ⟨0x00, 0x00, 0x00, 0xFF, fl 0x02⟩ 0xC001 2 [] ∧
    runs ⟨0x00, 0x00, 0x00, 0xFF, fl 0x80⟩ 0xC000 [(0xC000, 0x9A)]
      ⟨0x00, 0x00, 0x00, 0x00, fl 0x80⟩ 0xC001 2 [] ∧
    runs ⟨0x00, 0x05, 0x00, 0x00, fl 0x00⟩ 0xC000 [(0xC000, 0xBA)]
      ⟨0x00, 0x00, 0x00, 0x00, fl 0x02⟩ 0xC001 2 [] := by decide

/-- Vectors V15, V16, V18, V19 (42 R220 to R223: wraps of SP, the B bit, six flags pulled). -/
theorem test_stack :
    runs ⟨0xAB, 0x00, 0x00, 0x00, fl 0x00⟩ 0xC000 [(0xC000, 0x48)]
      ⟨0xAB, 0x00, 0x00, 0xFF, fl 0x00⟩ 0xC001 3 [(0x0100, 0xAB)] ∧
    runs ⟨0x01, 0x00, 0x00, 0xFF, fl 0x00⟩ 0xC000 [(0xC000, 0x68)]
      ⟨0x00, 0x00, 0x00, 0x00, fl 0x02⟩ 0xC001 4 [] ∧
    runs ⟨0x00, 0x00, 0x00, 0xFF, fl 0x81⟩ 0xC000 [(0xC000, 0x08)]
      ⟨0x00, 0x00, 0x00, 0xFE, fl 0x81⟩ 0xC001 3 [(0x01FF, 0xB1)] ∧
    runs ⟨0x00, 0x00, 0x00, 0xFE, fl 0x00⟩ 0xC000 [(0x01FF, 0xFF), (0xC000, 0x28)]
      ⟨0x00, 0x00, 0x00, 0xFF, fl 0xCF⟩ 0xC001 4 [] := by decide

/-- Vectors V21, V23, V26, V27, V30 (43 R230, R231). -/
theorem test_add :
    runs ⟨0x7F, 0x00, 0x00, 0xFF, fl 0x00⟩ 0xC000 [(0xC000, 0x69), (0xC001, 0x01)]
      ⟨0x80, 0x00, 0x00, 0xFF, fl 0xC0⟩ 0xC002 2 [] ∧
    runs ⟨0x80, 0x00, 0x00, 0xFF, fl 0x00⟩ 0xC000 [(0xC000, 0x69), (0xC001, 0x80)]
      ⟨0x00, 0x00, 0x00, 0xFF, fl 0x43⟩ 0xC002 2 [] ∧
    runs ⟨0x58, 0x00, 0x00, 0xFF, fl 0x09⟩ 0xC000 [(0xC000, 0x69), (0xC001, 0x46)]
      ⟨0x05, 0x00, 0x00, 0xFF, fl 0xC9⟩ 0xC002 2 [] ∧
    runs ⟨0x99, 0x00, 0x00, 0xFF, fl 0x08⟩ 0xC000 [(0xC000, 0x69), (0xC001, 0x01)]
      ⟨0x00, 0x00, 0x00, 0xFF, fl 0x89⟩ 0xC002 2 [] ∧
    runs ⟨0x0F, 0x00, 0x00, 0xFF, fl 0x08⟩ 0xC000 [(0xC000, 0x69)]
      ⟨0x15, 0x00, 0x00, 0xFF, fl 0x08⟩ 0xC002 2 [] := by decide

/-- Vectors V31, V32, V36, V38, V95 (43 R232, R233, 47 R312). -/
theorem test_subtract :
    runs ⟨0x00, 0x00, 0x00, 0xFF, fl 0x01⟩ 0xC000 [(0xC000, 0xE9), (0xC001, 0x01)]
      ⟨0xFF, 0x00, 0x00, 0xFF, fl 0x80⟩ 0xC002 2 [] ∧
    runs ⟨0x80, 0x00, 0x00, 0xFF, fl 0x01⟩ 0xC000 [(0xC000, 0xE9), (0xC001, 0x01)]
      ⟨0x7F, 0x00, 0x00, 0xFF, fl 0x41⟩ 0xC002 2 [] ∧
    runs ⟨0x00, 0x00, 0x00, 0xFF, fl 0x09⟩ 0xC000 [(0xC000, 0xE9), (0xC001, 0x01)]
      ⟨0x99, 0x00, 0x00, 0xFF, fl 0x88⟩ 0xC002 2 [] ∧
    runs ⟨0x32, 0x00, 0x00, 0xFF, fl 0x08⟩ 0xC000 [(0xC000, 0xE9), (0xC001, 0x02)]
      ⟨0x29, 0x00, 0x00, 0xFF, fl 0x09⟩ 0xC002 2 [] ∧
    runs ⟨0x00, 0x00, 0x00, 0xFF, fl 0x01⟩ 0xC000 [(0xC000, 0xEB), (0xC001, 0x01)]
      ⟨0xFF, 0x00, 0x00, 0xFF, fl 0x80⟩ 0xC002 2 [] := by decide

/-- Vectors V39, V40, V41, V42 (43 R234 to R236). -/
theorem test_compare :
    runs ⟨0x40, 0x00, 0x00, 0xFF, fl 0x00⟩ 0xC000 [(0xC000, 0xC9), (0xC001, 0x40)]
      ⟨0x40, 0x00, 0x00, 0xFF, fl 0x03⟩ 0xC002 2 [] ∧
    runs ⟨0x40, 0x00, 0x00, 0xFF, fl 0x00⟩ 0xC000 [(0xC000, 0xC9), (0xC001, 0x41)]
      ⟨0x40, 0x00, 0x00, 0xFF, fl 0x80⟩ 0xC002 2 [] ∧
    runs ⟨0x00, 0x80, 0x00, 0xFF, fl 0x00⟩ 0xC000 [(0xC000, 0xE0)]
      ⟨0x00, 0x80, 0x00, 0xFF, fl 0x81⟩ 0xC002 2 [] ∧
    runs ⟨0x00, 0x00, 0x7F, 0xFF, fl 0x00⟩ 0xC000 [(0xC000, 0xC0), (0xC001, 0x80)]
      ⟨0x00, 0x00, 0x7F, 0xFF, fl 0x80⟩ 0xC002 2 [] := by decide

/-- Vectors V43, V44, V45, V46, V47 (43 R237 to R242). -/
theorem test_count :
    runs ⟨0x00, 0x00, 0x00, 0xFF, fl 0x00⟩ 0xC000 [(0x0010, 0xFF), (0xC000, 0xE6), (0xC001, 0x10)]
      ⟨0x00, 0x00, 0x00, 0xFF, fl 0x02⟩ 0xC002 5 [(0x0010, 0x00)] ∧
    runs ⟨0x00, 0x20, 0x00, 0xFF, fl 0x00⟩ 0xC000 [(0x0010, 0x7F), (0xC000, 0xF6), (0xC001, 0xF0)]
      ⟨0x00, 0x20, 0x00, 0xFF, fl 0x80⟩ 0xC002 6 [(0x0010, 0x80)] ∧
    runs ⟨0x00, 0x00, 0x00, 0xFF, fl 0x00⟩ 0xC000 [(0xC000, 0xDE), (0xC002, 0x10)]
      ⟨0x00, 0x00, 0x00, 0xFF, fl 0x80⟩ 0xC003 7 [(0x1000, 0xFF)] ∧
    runs ⟨0x00, 0x00, 0x00, 0xFF, fl 0x00⟩ 0xC000 [(0xC000, 0xCA)]
      ⟨0x00, 0xFF, 0x00, 0xFF, fl 0x80⟩ 0xC001 2 [] ∧
    runs ⟨0x00, 0x00, 0x7F, 0xFF, fl 0x00⟩ 0xC000 [(0xC000, 0xC8)]
      ⟨0x00, 0x00, 0x80, 0xFF, fl 0x80⟩ 0xC001 2 [] := by decide

/-- Vectors V48, V49, V50, V51, V52 (44 R250 to R253). -/
theorem test_logic :
    runs ⟨0xF0, 0x00, 0x00, 0xFF, fl 0x00⟩ 0xC000 [(0xC000, 0x29), (0xC001, 0x0F)]
      ⟨0x00, 0x00, 0x00, 0xFF, fl 0x02⟩ 0xC002 2 [] ∧
    runs ⟨0x01, 0x00, 0x00, 0xFF, fl 0x00⟩ 0xC000 [(0xC000, 0x09), (0xC001, 0x80)]
      ⟨0x81, 0x00, 0x00, 0xFF, fl 0x80⟩ 0xC002 2 [] ∧
    runs ⟨0xFF, 0x00, 0x00, 0xFF, fl 0x00⟩ 0xC000 [(0xC000, 0x49), (0xC001, 0xFF)]
      ⟨0x00, 0x00, 0x00, 0xFF, fl 0x02⟩ 0xC002 2 [] ∧
    runs ⟨0x3F, 0x00, 0x00, 0xFF, fl 0x00⟩ 0xC000 [(0x0010, 0xC0), (0xC000, 0x24), (0xC001, 0x10)]
      ⟨0x3F, 0x00, 0x00, 0xFF, fl 0xC2⟩ 0xC002 3 [] ∧
    runs ⟨0x01, 0x00, 0x00, 0xFF, fl 0xC0⟩ 0xC000 [(0x0010, 0x01), (0xC000, 0x24), (0xC001, 0x10)]
      ⟨0x01, 0x00, 0x00, 0xFF, fl 0x00⟩ 0xC002 3 [] := by decide

/-- Vectors V53, V54, V55, V56, V60 (44 R254 to R257). -/
theorem test_shift :
    runs ⟨0x81, 0x00, 0x00, 0xFF, fl 0x00⟩ 0xC000 [(0xC000, 0x0A)]
      ⟨0x02, 0x00, 0x00, 0xFF, fl 0x01⟩ 0xC001 2 [] ∧
    runs ⟨0x01, 0x00, 0x00, 0xFF, fl 0x00⟩ 0xC000 [(0xC000, 0x4A)]
      ⟨0x00, 0x00, 0x00, 0xFF, fl 0x03⟩ 0xC001 2 [] ∧
    runs ⟨0x80, 0x00, 0x00, 0xFF, fl 0x01⟩ 0xC000 [(0xC000, 0x2A)]
      ⟨0x01, 0x00, 0x00, 0xFF, fl 0x01⟩ 0xC001 2 [] ∧
    runs ⟨0x01, 0x00, 0x00, 0xFF, fl 0x01⟩ 0xC000 [(0xC000, 0x6A)]
      ⟨0x80, 0x00, 0x00, 0xFF, fl 0x81⟩ 0xC001 2 [] ∧
    runs ⟨0x00, 0x01, 0x00, 0xFF, fl 0x00⟩ 0xC000 [(0x1100, 0x02), (0xC000, 0x7E), (0xC001, 0xFF), (0xC002, 0x10)]
      ⟨0x00, 0x01, 0x00, 0xFF, fl 0x00⟩ 0xC003 7 [(0x1100, 0x01)] := by decide

/-- Vectors V61, V62, V64 (45 R270 to R273). -/
theorem test_jump :
    runs ⟨0x00, 0x00, 0x00, 0xFF, fl 0x00⟩ 0xC000 [(0x0200, 0x12), (0x02FF, 0x34), (0x0300, 0x56), (0xC000, 0x6C), (0xC001, 0xFF), (0xC002, 0x02)]
      ⟨0x00, 0x00, 0x00, 0xFF, fl 0x00⟩ 0x1234 5 [] ∧
    runs ⟨0x00, 0x00, 0x00, 0xFF, fl 0x00⟩ 0xC000 [(0xC000, 0x20), (0xC001, 0x34), (0xC002, 0x12)]
      ⟨0x00, 0x00, 0x00, 0xFD, fl 0x00⟩ 0x1234 6 [(0x01FE, 0x02), (0x01FF, 0xC0)] ∧
    runs ⟨0x00, 0x00, 0x00, 0xFD, fl 0x00⟩ 0xC000 [(0x01FE, 0x02), (0x01FF, 0xC0), (0xC000, 0x60)]
      ⟨0x00, 0x00, 0x00, 0xFF, fl 0x00⟩ 0xC003 6 [] := by decide

/-- Vectors V65, V66 (45 R274, R275). -/
theorem test_exception :
    runs ⟨0x00, 0x00, 0x00, 0xFC, fl 0x04⟩ 0xC000 [(0x01FD, 0xC3), (0x01FE, 0x03), (0x01FF, 0xC0), (0xC000, 0x40)]
      ⟨0x00, 0x00, 0x00, 0xFF, fl 0xC3⟩ 0xC003 6 [] ∧
    runs ⟨0x00, 0x00, 0x00, 0xFF, fl 0x00⟩ 0xC000 [(0xC001, 0xEA), (0xFFFE, 0x48), (0xFFFF, 0xFF)]
      ⟨0x00, 0x00, 0x00, 0xFC, fl 0x04⟩ 0xFF48 7 [(0x01FD, 0x30), (0x01FE, 0x02), (0x01FF, 0xC0)] := by decide

/-- Vectors V67, V68, V70, V71, V73 (45 R276 to R284: page crosses down and up, the wrap past $FFFF). -/
theorem test_branch :
    runs ⟨0x00, 0x00, 0x00, 0xFF, fl 0x00⟩ 0xC000 [(0xC000, 0xD0), (0xC001, 0x05)]
      ⟨0x00, 0x00, 0x00, 0xFF, fl 0x00⟩ 0xC007 3 [] ∧
    runs ⟨0x00, 0x00, 0x00, 0xFF, fl 0x02⟩ 0xC000 [(0xC000, 0xD0), (0xC001, 0x05)]
      ⟨0x00, 0x00, 0x00, 0xFF, fl 0x02⟩ 0xC002 2 [] ∧
    runs ⟨0x00, 0x00, 0x00, 0xFF, fl 0x00⟩ 0xC000 [(0xC000, 0x90), (0xC001, 0x80)]
      ⟨0x00, 0x00, 0x00, 0xFF, fl 0x00⟩ 0xBF82 4 [] ∧
    runs ⟨0x00, 0x00, 0x00, 0xFF, fl 0x00⟩ 0xC0F0 [(0xC0F0, 0x50), (0xC0F1, 0x20)]
      ⟨0x00, 0x00, 0x00, 0xFF, fl 0x00⟩ 0xC112 4 [] ∧
    runs ⟨0x00, 0x00, 0x00, 0xFF, fl 0x02⟩ 0xFFF0 [(0xFFF0, 0xF0), (0xFFF1, 0x20)]
      ⟨0x00, 0x00, 0x00, 0xFF, fl 0x02⟩ 0x0012 4 [] := by decide

/-- Vectors V107, V109, V112, V113, V114 (46 R290 to R297). -/
theorem test_flags :
    runs ⟨0x00, 0x00, 0x00, 0xFF, fl 0x81⟩ 0xC000 [(0xC000, 0x18)]
      ⟨0x00, 0x00, 0x00, 0xFF, fl 0x80⟩ 0xC001 2 [] ∧
    runs ⟨0x00, 0x00, 0x00, 0xFF, fl 0x04⟩ 0xC000 [(0xC000, 0x58)]
      ⟨0x00, 0x00, 0x00, 0xFF, fl 0x00⟩ 0xC001 2 [] ∧
    runs ⟨0x00, 0x00, 0x00, 0xFF, fl 0x00⟩ 0xC000 [(0xC000, 0xF8)]
      ⟨0x00, 0x00, 0x00, 0xFF, fl 0x08⟩ 0xC001 2 [] ∧
    runs ⟨0x00, 0x00, 0x00, 0xFF, fl 0x40⟩ 0xC000 [(0xC000, 0xB8)]
      ⟨0x00, 0x00, 0x00, 0xFF, fl 0x00⟩ 0xC001 2 [] ∧
    runs ⟨0x00, 0x00, 0x00, 0xFF, fl 0xCF⟩ 0xC000 [(0xC000, 0xEA)]
      ⟨0x00, 0x00, 0x00, 0xFF, fl 0xCF⟩ 0xC001 2 [] := by decide

/-- Vectors V75, V76, V79, V84, V86 (47 R300 to R307). -/
theorem test_combined :
    runs ⟨0x00, 0x04, 0x00, 0xFF, fl 0x00⟩ 0xC000 [(0x0025, 0x40), (0x4000, 0xC0), (0xC000, 0x03), (0xC001, 0x20)]
      ⟨0x80, 0x04, 0x00, 0xFF, fl 0x81⟩ 0xC002 8 [(0x4000, 0x80)] ∧
    runs ⟨0xFF, 0x00, 0x00, 0xFF, fl 0x01⟩ 0xC000 [(0x0010, 0x80), (0xC000, 0x27), (0xC001, 0x10)]
      ⟨0x01, 0x00, 0x00, 0xFF, fl 0x01⟩ 0xC002 5 [(0x0010, 0x01)] ∧
    runs ⟨0x09, 0x00, 0x00, 0xFF, fl 0x08⟩ 0xC000 [(0x0010, 0x02), (0xC000, 0x67), (0xC001, 0x10)]
      ⟨0x10, 0x00, 0x00, 0xFF, fl 0x08⟩ 0xC002 5 [(0x0010, 0x01)] ∧
    runs ⟨0x00, 0x01, 0x00, 0xFF, fl 0x00⟩ 0xC000 [(0x1100, 0x01), (0xC000, 0xDF), (0xC001, 0xFF), (0xC002, 0x10)]
      ⟨0x00, 0x01, 0x00, 0xFF, fl 0x03⟩ 0xC003 7 [(0x1100, 0x00)] ∧
    runs ⟨0x10, 0x00, 0x00, 0xFF, fl 0x09⟩ 0xC000 [(0xC000, 0xE7), (0xC001, 0x10)]
      ⟨0x09, 0x00, 0x00, 0xFF, fl 0x09⟩ 0xC002 5 [(0x0010, 0x01)] := by decide

/-- Vectors V77, V78, V82, V83, V85 (47 R302, R303, R305 to R307). -/
theorem test_combined_more :
    runs ⟨0x01, 0x00, 0x00, 0xFF, fl 0x00⟩ 0xC000 [(0x0010, 0x03), (0xC000, 0x47), (0xC001, 0x10)]
      ⟨0x00, 0x00, 0x00, 0xFF, fl 0x03⟩ 0xC002 5 [(0x0010, 0x01)] ∧
    runs ⟨0x10, 0x00, 0x00, 0xFF, fl 0x01⟩ 0xC000 [(0x0010, 0x02), (0xC000, 0x67), (0xC001, 0x10)]
      ⟨0x91, 0x00, 0x00, 0xFF, fl 0x80⟩ 0xC002 5 [(0x0010, 0x81)] ∧
    runs ⟨0x00, 0x00, 0xFF, 0xFF, fl 0x00⟩ 0xC000 [(0x0020, 0x01), (0x0021, 0x30), (0x3100, 0x77), (0xC000, 0xB3), (0xC001, 0x20)]
      ⟨0x77, 0x77, 0xFF, 0xFF, fl 0x00⟩ 0xC002 6 [] ∧
    runs ⟨0x40, 0x00, 0x00, 0xFF, fl 0x00⟩ 0xC000 [(0x0010, 0x41), (0xC000, 0xC7), (0xC001, 0x10)]
      ⟨0x40, 0x00, 0x00, 0xFF, fl 0x03⟩ 0xC002 5 [(0x0010, 0x40)] ∧
    runs ⟨0x10, 0x00, 0x00, 0xFF, fl 0x01⟩ 0xC000 [(0xC000, 0xE7), (0xC001, 0x10)]
      ⟨0x0F, 0x00, 0x00, 0xFF, fl 0x01⟩ 0xC002 5 [(0x0010, 0x01)] := by decide

/-- Vectors V87, V88, V89, V91, V94 (47 R308 to R311). -/
theorem test_immediate :
    runs ⟨0xFF, 0x00, 0x00, 0xFF, fl 0x00⟩ 0xC000 [(0xC000, 0x0B), (0xC001, 0x80)]
      ⟨0x80, 0x00, 0x00, 0xFF, fl 0x81⟩ 0xC002 2 [] ∧
    runs ⟨0xFF, 0x00, 0x00, 0xFF, fl 0x00⟩ 0xC000 [(0xC000, 0x4B), (0xC001, 0x03)]
      ⟨0x01, 0x00, 0x00, 0xFF, fl 0x01⟩ 0xC002 2 [] ∧
    runs ⟨0xC0, 0x00, 0x00, 0xFF, fl 0x01⟩ 0xC000 [(0xC000, 0x6B), (0xC001, 0xFF)]
      ⟨0xE0, 0x00, 0x00, 0xFF, fl 0x81⟩ 0xC002 2 [] ∧
    runs ⟨0xFF, 0x00, 0x00, 0xFF, fl 0x09⟩ 0xC000 [(0xC000, 0x6B), (0xC001, 0xFF)]
      ⟨0x55, 0x00, 0x00, 0xFF, fl 0x89⟩ 0xC002 2 [] ∧
    runs ⟨0xF0, 0x3F, 0x00, 0xFF, fl 0x00⟩ 0xC000 [(0xC000, 0xCB), (0xC001, 0x31)]
      ⟨0xF0, 0xFF, 0x00, 0xFF, fl 0x80⟩ 0xC002 2 [] := by decide

/-- Vectors V99, V100, V98, V96 (47 R316, R317, R315, R313). -/
theorem test_open_constants :
    runs ⟨0x00, 0xFF, 0x00, 0xFF, fl 0x00⟩ 0xC000 [(0xC000, 0x8B), (0xC001, 0xFF)]
      ⟨0xEE, 0xFF, 0x00, 0xFF, fl 0x80⟩ 0xC002 2 [] ∧
    runs ⟨0x00, 0x00, 0x00, 0xFF, fl 0x00⟩ 0xC000 [(0xC000, 0xAB), (0xC001, 0xFF)]
      ⟨0xEE, 0xEE, 0x00, 0xFF, fl 0x80⟩ 0xC002 2 [] ∧
    runs ⟨0x00, 0x00, 0x00, 0x3C, fl 0x00⟩ 0xC000 [(0x1000, 0xF0), (0xC000, 0xBB), (0xC002, 0x10)]
      ⟨0x30, 0x30, 0x00, 0x30, fl 0x00⟩ 0xC003 4 [] ∧
    runs ⟨0x00, 0xFF, 0x00, 0xFF, fl 0x00⟩ 0xC000 [(0xC000, 0x1C), (0xC001, 0x01), (0xC002, 0x10)]
      ⟨0x00, 0xFF, 0x00, 0xFF, fl 0x00⟩ 0xC003 5 [] := by decide

/-- Vectors V101, V102, V103, V105 (47 R318 to R321: no cross, cross with the replaced high byte, TAS). -/
theorem test_unstable :
    runs ⟨0xFF, 0xFF, 0x05, 0xFF, fl 0x00⟩ 0xC000 [(0xC000, 0x9F), (0xC001, 0xF0), (0xC002, 0x10)]
      ⟨0xFF, 0xFF, 0x05, 0xFF, fl 0x00⟩ 0xC003 5 [(0x10F5, 0x11)] ∧
    runs ⟨0xFF, 0x7F, 0x80, 0xFF, fl 0x00⟩ 0xC000 [(0x0020, 0xC0), (0x0021, 0x30), (0xC000, 0x93), (0xC001, 0x20)]
      ⟨0xFF, 0x7F, 0x80, 0xFF, fl 0x00⟩ 0xC002 6 [(0x3140, 0x31)] ∧
    runs ⟨0x00, 0x0F, 0x20, 0xFF, fl 0x00⟩ 0xC000 [(0xC000, 0x9E), (0xC001, 0xF0), (0xC002, 0x10)]
      ⟨0x00, 0x0F, 0x20, 0xFF, fl 0x00⟩ 0xC003 5 [(0x0110, 0x01)] ∧
    runs ⟨0xF3, 0x3F, 0x01, 0xFF, fl 0x00⟩ 0xC000 [(0xC000, 0x9B), (0xC001, 0xF0), (0xC002, 0x10)]
      ⟨0xF3, 0x3F, 0x01, 0x33, fl 0x00⟩ 0xC003 5 [(0x10F1, 0x11)] := by decide

/-! ## Interrupts, memory and devices: the vectors of 95_test_vectors.md section 3 -/

/-- E4: the IRQ sequence from `$C008` with P = Z: pushed `$C0`, `$08`, `$22`, 7 cycles, I set. -/
theorem test_irq :
    (match step { bench ⟨0, 0, 0, 0xFF, fl 0x02⟩ 0xC008 [(0xFFFF, 0xC1)] with
      cpu := { (bench ⟨0, 0, 0, 0xFF, fl 0x02⟩ 0xC008 []).cpu with doIrq := true } } with
    | .next t => decide (t.cpu.pc = 0xC100 ∧ t.cpu.regs = ⟨0, 0, 0, 0xFC, fl 0x06⟩ ∧ t.cpu.lines.cycle = 7 ∧
        t.ram = [(0x01FD, 0x22), (0x01FE, 0x08), (0x01FF, 0xC0), (0xFFFF, 0xC1)])
    | .fault _ => false
    | .refused _ => false) = true := by decide

/-- E7: a jam, and no step after it. -/
theorem test_jam :
    (match step (bench ⟨0, 0, 0, 0xFF, fl 0⟩ 0xC000 [(0xC000, 0x02)]) with
    | .next t => decide (t.cpu.pc = 0xC001 ∧ t.cpu.mip = .jammed ∧ t.cpu.errorState = .illegal ∧ t.cpu.lines.cycle = 2) &&
        (match step t with | .fault .jammed => true | _ => false)
    | .fault _ => false
    | .refused _ => false) = true := by decide

/-- E11: the port after reset, without and with a datasette key. -/
theorem test_port_reset :
    State.reset.spyPeek 0 = 0x00 ∧ State.reset.spyPeek 1 = 0x17 ∧
    ({ State.reset with inputs := { Inputs.idle with datasetteKey := true } } : State).spyPeek 1 = 0x07 := by decide

/-- E13: what `$A000`, `$D000`, `$E000` read with `$0000 <- $07`, `$0001 <- v`, for v = 7 down to 0. -/
theorem test_banking :
    ([7, 6, 5, 4, 3, 2, 1, 0].map fun v =>
      let s := (State.reset.busWrite 0 0x07).busWrite 1 v
      [s.peekSource 0xA000, s.peekSource 0xD000, s.peekSource 0xE000]) =
    [[.basic, .io, .kernal], [.ram, .io, .kernal], [.ram, .io, .ram], [.ram, .ram, .ram],
     [.basic, .char, .kernal], [.ram, .char, .kernal], [.ram, .char, .ram], [.ram, .ram, .ram]] := by decide

/-- E15: mirrors and holes of the I/O page. -/
theorem test_io :
    ({ State.reset with vic := State.reset.vic.write Config.default 0 0x5A } : State).spyPeek 0xD040 = 0x5A ∧
    State.reset.spyPeek 0xD02F = 0xFF ∧
    (State.reset.busWrite 0xDC13 0x0F).cia1.ddrb = 0x0F ∧
    (State.reset.busWrite 0xD800 0xA5).colorRam = [(0, 0x05)] := by decide

/-- E20: a read of the pending, enabled flag gives `$81` and clears it. -/
theorem test_icr :
    let x := ({ Cia.reset with icr := 0x01, imr := 0x01, irqOut := true } : Cia).read benchCfg 0xFF 13
    x.1 = 0x81 ∧ (x.2.step benchCfg).irqOut = false ∧ ((x.2.step benchCfg).read benchCfg 0xFF 13).1 = 0x00 := by decide

/-- R519: a written bit sets the modified flag, saving the image clears it and keeps the bits. -/
theorem test_modified :
    let d : Drive := { Drive.reset Config.default.resetRegs with disk := Disk.blank.setBit 35 0 true }
    d.disk.modified = true ∧ d.saveImage.2.disk.modified = false ∧ d.saveImage.1 = d.disk.tracks := ⟨rfl, rfl, rfl⟩

/-- R451: timer B with latch 2 on timer A's underflows: every third of them, whether they come in every cycle or in every
second (the period in pulses is the model's choice, log 11). -/
theorem test_cascade_period :
    let c : Cia := { Cia.reset with counterA := 0, latchA := 0, counterB := 2, latchB := 2, cra := 0x01, crb := 0x41,
                                    delay := 0xFF, feed := 0x11 }
    let d : Cia := { c with counterA := 1, latchA := 1 }
    ((List.range 10).filter fun n => ((Cia.step benchCfg)^[n] c).tbOut) = [3, 6, 9] ∧
    ((List.range 12).filter fun n => ((Cia.step benchCfg)^[n] d).tbOut) = [5, 11] := by decide

/-- R457: a read in the cycle of timer B's underflow loses its flag, and not one that was pending before. -/
theorem test_timer_b_bug :
    let cfg : Config := { benchCfg with ciaTimerBBug := true }
    let c : Cia := { Cia.reset with counterB := 1, latchB := 9, crb := 0x01, delay := 0xF0, feed := 0x10 }
    (c.step cfg).tbOut = true ∧ ((c.step cfg).read cfg 0xFF 13).1 = 0x00 ∧
    (({ c with icr := 0x02 } : Cia).step cfg |>.read cfg 0xFF 13).1 = 0x02 ∧
    ((c.step benchCfg).read benchCfg 0xFF 13).1 = 0x02 := by decide

/-- R445: a byte written to SDR while a transfer runs starts its own transfer when that one is over. -/
theorem test_serial_waits :
    let c : Cia := { Cia.reset with cra := 0x40, sdr := 0x11, serCount := 1, shiftReg := 0x80, delay := 1 <<< 18 }
    let d := Cia.step benchCfg (Cia.step benchCfg (Cia.step benchCfg (c.write benchCfg 12 0xA5)))
    d.serCount = 8 ∧ d.shiftReg = 0xA5 ∧ d.icr = 0x08 := by decide

/-- E23: continuous mode with latch 2 underflows in cycles 3, 6, 9 after the write. -/
theorem test_timer_period :
    ((List.range 10).filter fun n =>
      ((Cia.step benchCfg)^[n] (({ Cia.reset with latchA := 2 } : Cia).write benchCfg 14 0x11)).taOut) = [3, 6, 9] := by
  decide

/-- E24: three ticks from 9.7 seconds give 10.0; the carry from 11:59:59.9 AM gives 12:00:00.0 PM. -/
theorem test_tod :
    TodTime.tenth^[3] ⟨0, 0, 0x09, 7⟩ = ⟨0, 0, 0x10, 0⟩ ∧
    TodTime.tenth ⟨0x11, 0x59, 0x59, 9⟩ = ⟨0x92, 0, 0, 0⟩ := by decide

/-- E30: YSCROLL = 3 has 25 bad lines, `$33` to `$F3`; with YSCROLL = 0 the last is `$F0`. -/
theorem test_bad_lines :
    ((List.range 312).filter fun n =>
      ({ Vic.reset with denLatch := true, line := n, del := [(0x11, 0x1B)] } : Vic).badLineNow) =
      (List.range 25).map (0x33 + 8 * ·) ∧
    ((List.range 312).filter fun n =>
      ({ Vic.reset with denLatch := true, line := n, del := [(0x11, 0x18)] } : Vic).badLineNow) =
      (List.range 25).map (0x30 + 8 * ·) := by decide

/-- R473: a register with delay 3 acts in the fourth cycle after its write, another's copy does not bring it forward. -/
theorem test_vic_delay :
    let cfg : Config := { Config.default with vicWriteDelay := (List.replicate 47 1).set 0x21 3 }
    let v := (Vic.reset.write cfg 0x21 0x05).write cfg 0x20 0x06
    let one (v : Vic) : Vic := v.copyPhase
    v.cur.read 0x21 = 0x05 ∧ (one v).reg 0x20 = 0x06 ∧ (one v).reg 0x21 = 0 ∧ (one (one v)).reg 0x21 = 0 ∧
    (one (one (one v))).reg 0x21 = 0x05 := by decide

/-- R474: the gray dot lasts one cycle. -/
theorem test_gray_dot :
    let cfg : Config := { Config.default with grayDotBug := true, vicWriteDelay := List.replicate 47 4 }
    let v := Vic.reset.write cfg 0x21 0x05
    v.reg 0x21 = 0x0F ∧ v.copyPhase.reg 0x21 = 0x05 := by decide

/-- R477, R479: sprite 0's 21st row: its three bytes are fetched, RDY is low through cycle 59, then DMA is off. -/
theorem test_sprite_last_row :
    let p : Sprite := { Sprite.reset with dma := true, mc := 60, pointer := 0x20 }
    let v : Vic := { Vic.reset with line := 100, cycle := 58, sprites := p :: List.replicate 7 Sprite.reset }
    let rd : Nat → Byte := fun a => if a = 0x3F8 then 0x20 else BitVec.ofNat 8 a
    let i : VicInputs := { first := rd, second := rd, color := fun _ => 0, lightPen := true, free0 := 0, free1 := 0, free2 := 0 }
    let w := (v.step .pal6569 i).advance .pal6569
    let u := w.step .pal6569 i
    w.ba = false ∧ u.ba = false ∧ (u.sprites.map (·.dma)).head? = some false ∧
    (u.sprites.map (·.data)).head? = some 0x3C3D3E ∧
    (v.readsFirst .pal6569, v.readsSecond .pal6569 rd) = ([0x3F8], [0x83C]) ∧
    (w.readsFirst .pal6569, w.readsSecond .pal6569 rd) = ([0x83D], [0x83E]) := by decide

/-- E32: `$D019` after a raster match, enabled and not; writing 1 clears the source. -/
theorem test_irr :
    (({ Vic.reset with irrRaster := true, del := [(0x1A, 0x01)] } : Vic).read 0x19).1 = 0xF1 ∧
    (({ Vic.reset with irrRaster := true } : Vic).read 0x19).1 = 0x71 ∧
    (({ Vic.reset with irrRaster := true } : Vic).write Config.default 0x19 0x01).irrRaster = false := by decide

/-- E40, E41: GCR codes, and the header of track 18, sector 0. -/
theorem test_gcr :
    encodeGcr Config.standardGcr 0x8D = 0b0100111101 ∧ encodeGcr Config.standardGcr 0x55 = 0b0111101111 ∧
    decodeGcr Config.standardGcr 0b0000000000 = none ∧
    headerBytes 0x12 0x00 0x41 0x42 = [0x08, 0x11, 0x00, 0x12, 0x42, 0x41, 0x0F, 0x0F] ∧
    gcrBits Config.standardGcr (headerBytes 0x12 0x00 0x41 0x42) =
      [0x52, 0x56, 0xB5, 0x29, 0x72, 0x74, 0x9C, 0xB5, 0x55, 0x55].flatMap (bitsMsb 8 ·) := by decide

/-- R528: an analysis pass finds a header block with a right checksum and one with a wrong one. -/
theorem test_analysis :
    let t (bs : List Byte) : Track :=
      { length := 150, bits := List.replicate 40 true ++ gcrBits Config.standardGcr bs ++ List.replicate 10 true ++
          (List.replicate 20 false) }
    ((t (headerBytes 0x12 0x00 0x41 0x42)).analyse Config.standardGcr 35).blocks.head? =
      some { start := 40, mark := some 0x08, checksumOk := true } ∧
    ((t ((headerBytes 0x12 0x00 0x41 0x42).set 2 0x01)).analyse Config.standardGcr 35).blocks.head? =
      some { start := 40, mark := some 0x08, checksumOk := false } := by decide

/-- R517, R519: leaving write mode with a shift register of ones, SYNC holds at once and the counter is 0; in write mode the
bit is port A's at the event. -/
theorem test_drive_modes :
    let d : Drive := { Drive.reset Config.default.resetRegs with
      shift := 0x3FF, byteCount := 5, via2 := { regs := [(0, 0x04), (2, 0x04), (3, 0xFF), (12, 0xCC)], ca1 := false },
      disk := { Disk.blank with tracks := List.replicate 84 { length := 2, bits := [false, false] } } }
    (d.busWrite 0x1C0C 0xEE).byteCount = 0 ∧ (d.busWrite 0x1C0C 0xEE).sync = true ∧
    ((d.busWrite 0x1C01 0x04).bitReady.track.bits = [true, false]) ∧ d.bitReady.track.bits = [false, false] := by decide

/-- R149: nothing of a jammed drive CPU changes. -/
theorem test_drive_jam :
    let d : Drive := { Drive.reset Config.default.resetRegs with
      cpu := { (Drive.reset Config.default.resetRegs).cpu with mip := .jammed } }
    d.clockEvent Config.default { atn := false, clk := false, data := false } = { d with nextClock := 10000 } := rfl

/-- R542: no power-on without the KERNAL. -/
theorem test_rom_missing :
    ({ State.reset with cfg := { Config.default with romsPresent := { basic := true, char := true, kernal := false, drive := true } } } :
      State).powerOn [] [] [] = .error .romMissing := rfl

/-- R79: in ultimax a fetch of the VIC-II from the cartridge can switch its lines, with a free value for them, and the
second half of the cycle reads through the changed lines: in cycle 58, sprite 0's pointer at `$3FF8`, then its data byte. -/
theorem test_vic_cart_access :
    let s : State := { State.reset with
      cart := { Cart.none with present := true, game := false, switching := true }
      vic := { Vic.reset with cycle := 58, del := [(0x18, 0xF0)],
                              sprites := { Sprite.reset with dma := true } :: List.replicate 7 Sprite.reset } }
    s.vic.readsFirst .pal6569 = [0x3FF8] ∧ s.vicHalf.draws = 1 ∧
    s.vicHalf.cart.game = (Config.drawByte 0).getLsbD 0 ∧ (s.vicInputs 0).second = s.vicHalf.vicRead s.vicBank ∧
    ({ s with cart := Cart.none } : State).vicCycle.draws = 3 := by
  refine ⟨by decide, by decide, rfl, rfl, by decide⟩

/-! ## Witnesses: a state and operands that meet the hypotheses of each obligation -/

/-- Whether a step answers a next state. -/
def answersNext : Host.Outcome State Fault Refusal → Bool
  | .next _ => true
  | .fault _ => false
  | .refused _ => false

theorem next_of_answersNext {o : Host.Outcome State Fault Refusal} (h : answersNext o = true) : ∃ t, o = .next t := by
  cases o with
  | next t => exact ⟨t, rfl⟩
  | fault f => cases h
  | refused r => cases h

/-- The machine after reset with `LDA #$80` where it fetches. -/
def loadState : State := State.reset.withFetchWord 16 0x80A9

/-- The same with `LDA $08FF,X`, X = 1: a page crossing. -/
def crossState : State :=
  { State.reset.withFetchWord 24 0x08FFBD with cpu := { (State.reset.withFetchWord 24 0x08FFBD).cpu with x := 0x01 } }

/-- The same with `BEQ` to itself, Z set. -/
def branchState : State :=
  { State.reset.withFetchWord 16 0xFEF0 with
    cpu := { (State.reset.withFetchWord 16 0xFEF0).cpu with p := { n := false, v := false, d := false, i := true, z := true, c := false } } }

/-- The state after reset with an NMI or an IRQ latched. -/
def latched (nmi irq : Bool) : State := { loadState with cpu := { loadState.cpu with doNmi := nmi, doIrq := irq } }

/-- A jammed machine. -/
def jammedState : State := { State.reset with cpu := { State.reset.cpu with mip := .jammed, jamFlag := true } }

/-- A machine in the middle of a bad line, so that the VIC-II holds RDY low. -/
def badLineState : State :=
  { loadState with vic := { Vic.reset with line := 0x33, cycle := 20, denLatch := true, cur := [(0x11, 0x1B)], del := [(0x11, 0x1B)] } }

/-- A machine before the write row of `STA $08FF`. -/
def writeRowState : State :=
  { loadState with cpu := { loadState.cpu with mip := .exec 0x8D 4, adl := 0xFF, adh := 0x08 } }

theorem witness_EncodeInvertsDecode : decode [0x4C, 0x34, 0x12, 0x00] = .ok (.jmpAbs 0x1234, [0x00]) := by decide

theorem witness_ResetTable :
    State.reset.cfg.romsPresent.complete = true ∧
    ({ Config.default with romsPresent := { Config.default.romsPresent with kernal := false } } : Config).romsPresent.complete =
      false := ⟨rfl, rfl⟩

theorem witness_ResetDevices : State.reset.cia2.extA = 0xFF := rfl

theorem witness_StepPriority :
    (∃ (s : State) (k : ResetKind), s.inputs.resetReq = some k ∧ s.cpu.mip = .jammed) ∧
    ((latched true true).inputs.resetReq = none ∧ (latched true true).cpu.mip = .fetch ∧
      (latched true true).cpu.doNmi = true) ∧
    ((latched false true).inputs.resetReq = none ∧ (latched false true).cpu.mip = .fetch ∧
      (latched false true).cpu.doNmi = false ∧ (latched false true).cpu.doIrq = true) :=
  ⟨⟨{ jammedState with inputs := { Inputs.idle with resetReq := some .soft } }, .soft, rfl, rfl⟩, ⟨rfl, rfl, rfl⟩,
    ⟨rfl, rfl, rfl, rfl⟩⟩

/-- Also the hypotheses of InstructionCycles, for a plain instruction. -/
theorem witness_StepRunsDecoded :
    loadState.inputs.resetReq = none ∧ loadState.cpu.mip = .fetch ∧ loadState.cpu.doNmi = false ∧
    loadState.cpu.doIrq = false ∧ decode loadState.fetchBytes = .ok (.ldaImm 0x80, [0x00]) := by decide

theorem witness_ProgramInRam :
    (loadState.cart.switching = false ∧ loadState.bankLines.ultimax = false) ∧
    (loadState.inputs.resetReq = none ∧ loadState.cpu.mip = .fetch ∧ loadState.cpu.doNmi = false ∧
      loadState.cpu.doIrq = false) ∧
    (∀ k < 3, loadState.portAt (loadState.cpu.pc + BitVec.ofNat 16 k) = false ∧
      loadState.peekSource (loadState.cpu.pc + BitVec.ofNat 16 k) = .ram) ∧
    decode [loadState.ram.read loadState.cpu.pc.toNat, loadState.ram.read (loadState.cpu.pc + 1).toNat,
      loadState.ram.read (loadState.cpu.pc + 2).toNat] = .ok (.ldaImm 0x80, [0x00]) := by decide

/-- RDY is high in the next eight cycles of the three machines. -/
theorem unstalled_load : loadState.Unstalled := by unfold State.Unstalled; decide
theorem unstalled_cross : crossState.Unstalled := by unfold State.Unstalled; decide
theorem unstalled_branch : branchState.Unstalled := by unfold State.Unstalled; decide

/-- The hypotheses of the cycle count of FlagInstructions, at `CLC`. -/
theorem witness_FlagInstructions : let s := State.reset.withFetchWord 8 0x18
    s.inputs.resetReq = none ∧ s.cpu.mip = .fetch ∧ s.cpu.doNmi = false ∧ s.cpu.doIrq = false ∧
    decode s.fetchBytes = .ok (.clc, [0x00, 0x00]) ∧ s.Unstalled :=
  ⟨rfl, rfl, rfl, rfl, by decide, by unfold State.Unstalled; decide⟩

theorem witness_StepIsClocks :
    loadState.inputs.resetReq = none ∧ loadState.Unstalled ∧ ∃ t, step loadState = .next t :=
  ⟨rfl, unstalled_load, next_of_answersNext (by decide)⟩

/-- Each clause: a page crossing and a taken branch. -/
theorem witness_InstructionCycles :
    (∀ s ∈ [crossState, branchState], s.inputs.resetReq = none ∧ s.cpu.mip = .fetch ∧ s.cpu.doNmi = false ∧
      s.cpu.doIrq = false) ∧
    (decode crossState.fetchBytes = .ok (.ldaAbx 0x08FF, []) ∧ extraCycles (.ldaAbx 0x08FF) crossState = 1) ∧
    (decode branchState.fetchBytes = .ok (.beq 0xFE, [0x00]) ∧ extraCycles (.beq 0xFE) branchState = 1) ∧
    crossState.Unstalled ∧ branchState.Unstalled :=
  ⟨by decide, by decide, by decide, unstalled_cross, unstalled_branch⟩

theorem witness_OnlyJamStops :
    State.reset.CpuInv ∧ State.reset.cpu.jamFlag = false ∧
    jammedState.CpuInv ∧ jammedState.inputs.resetReq = none ∧ jammedState.cpu.jamFlag = true :=
  ⟨⟨rfl, rfl, by decide⟩, rfl, ⟨rfl, rfl, by decide⟩, rfl, rfl⟩

/-- The hypotheses of the four statements on a step, at the state after reset with an instruction to fetch. -/
theorem witness_StepKeepsCpu : loadState.CpuInv ∧ ∃ t, step loadState = .next t :=
  ⟨⟨rfl, rfl, by decide⟩, next_of_answersNext (by decide)⟩

theorem witness_StepKeepsMemories : loadState.MemoriesInv ∧ ∃ t, step loadState = .next t :=
  ⟨⟨by decide, by decide, fun _ => show (0#8).toNat < 16 by decide⟩, next_of_answersNext (by decide)⟩

theorem witness_StepKeepsVideo : loadState.VideoInv ∧ ∃ t, step loadState = .next t :=
  ⟨⟨by decide, by decide, by decide, by decide, by decide, by decide, by decide, rfl⟩, next_of_answersNext (by decide)⟩

theorem witness_StepKeepsDrive : loadState.DriveInv ∧ ∃ t, step loadState = .next t :=
  ⟨⟨by decide, by decide, by decide, by decide, by decide, by decide, by decide, rfl⟩, next_of_answersNext (by decide)⟩

theorem witness_HousekeepingEveryCycle : loadState.cpu.currentRow loadState.cfg = some fetchRow := rfl

theorem witness_RdyStallsReadsOnly :
    (∃ addr k, badLineState.cpu.currentRow badLineState.cfg = some (.read addr k)) ∧
    badLineState.devices.cpu.lines.rdy = false ∧
    ∃ addr val k, writeRowState.cpu.currentRow writeRowState.cfg = some (.write addr val k) :=
  ⟨⟨_, _, rfl⟩, by decide, ⟨_, _, _, rfl⟩⟩

theorem witness_InterruptEntry :
    ((latched true false).inputs.resetReq = none ∧ (latched true false).cpu.mip = .fetch ∧
      (latched true false).cpu.doNmi = true) ∧
    (latched false true).cpu.doNmi = false ∧ (latched false true).cpu.doIrq = true ∧
    (latched false true).Unstalled :=
  ⟨⟨rfl, rfl, rfl⟩, rfl, rfl, by unfold State.Unstalled; decide⟩

theorem witness_RtiUndoesInterrupt :
    ((latched true false).inputs.resetReq = none ∧ (latched true false).cpu.mip = .fetch ∧
      (latched true false).cpu.doNmi = true ∧ ∃ t, step (latched true false) = .next t) ∧
    ∃ t, exec .brk loadState = .next t :=
  ⟨⟨rfl, rfl, rfl, next_of_answersNext (by decide)⟩, ⟨_, rfl⟩⟩

/-- `NOP` is in none of the four lists, and each list's own instructions are left out of its clause alone. -/
theorem witness_FlagAndStackWriters : (∃ t, exec .nop loadState = .next t) ∧ Instr.opcode .nop = 0xEA :=
  ⟨⟨_, rfl⟩, rfl⟩

theorem witness_Jams : Instr.jam02 ∈ [Instr.jam02, .jam12] ∧ loadState.inputs.resetReq = none := ⟨by simp, rfl⟩

/-- Boundary pages of each clause outside ultimax, and the value of an I/O and a cartridge entry. -/
theorem witness_BankTables :
    let b : BankLines := { exrom := false, game := false, charen := true, hiram := true, loram := true }
    b.ultimax = false ∧ bankEntry b 0 = .ram ∧ bankEntry b 7 = .ram ∧ bankEntry b 8 = .crtLo ∧ bankEntry b 9 = .crtLo ∧
    bankEntry b 10 = .crtHi ∧ bankEntry b 11 = .crtHi ∧ bankEntry b 12 = .ram ∧ bankEntry b 13 = .io ∧
    bankEntry b 14 = .kernal ∧ bankEntry b 15 = .kernal := by decide

/-- An address of each kind of write: the port's two, RAM from `$0002` on, the I/O page's ends, a dropped one in ultimax. -/
theorem witness_WriteRouting :
    State.reset.portAt 0 = true ∧ State.reset.portAt 1 = true ∧ State.reset.portAt 2 = false ∧
    State.reset.pokeTarget 2 = .ram ∧ State.reset.pokeTarget 0xCFFF = .ram ∧ State.reset.pokeTarget 0xD000 = .io ∧
    State.reset.pokeTarget 0xDFFF = .io ∧ State.reset.pokeTarget 0xE000 = .ram ∧
    ({ State.reset with cart := { Cart.none with present := true, game := false } } : State).pokeTarget 0x8000 =
      .unmapped ∧
    peekSrc true State.reset.bankLines 14 = .kernal := by decide

theorem witness_PortReads : State.reset.cfg.cpuModel = .mos6510 := rfl

/-- The state in which `$0000 <- $00` is written in the third clause, and the two states that read. -/
def driven : State := { State.reset with port := { ProcPort.reset with dir := 0xFF, data := 0xFF } }
def readAt (n : BitVec 64) : State :=
  { State.reset with port := (driven.busWrite 0 0).port,
                     cpu := { State.reset.cpu with lines := Lines.resetAt n } }

theorem witness_PortDischarge :
    driven.cfg.cpuModel = .mos6510 ∧ driven.cfg.discharge6 = 350000 ∧ driven.port.dir = 0xFF ∧ driven.port.data = 0xFF ∧
    driven.cpu.lines.cycle.toNat + 350000 < 2 ^ 64 ∧
    (readAt 349999).cfg = driven.cfg ∧ (readAt 349999).port = (driven.busWrite 0 0).port ∧
    (readAt 349999).cpu.lines.cycle = driven.cpu.lines.cycle + 349999 ∧
    (readAt 350000).cpu.lines.cycle = driven.cpu.lines.cycle + 350000 ∧
    (∀ k ∈ [3, 6, 7], State.reset.port.dir.getLsbD k = false) :=
  ⟨rfl, rfl, rfl, rfl, by decide, rfl, rfl, rfl, rfl, by decide⟩

theorem witness_ReadAfterWrite :
    State.reset.ramAt 2 = true ∧ State.reset.peekSource 2 = .ram ∧ State.reset.portAt 0xCFFF = false ∧
    State.reset.peekSource 0xCFFF = .ram ∧ State.reset.colorAt 0xD800 = true ∧ State.reset.colorAt 0xDBFF = true ∧
    State.reset.colorAt 0xDC00 = false := by decide

theorem witness_TimerOneShot :
    benchCfg.ciaModel = .mos6526 ∧ benchCfg.ciaBitsOk = true ∧
    ∀ l ∈ [1, 65535], let c : Cia := { Cia.reset with latchA := BitVec.ofNat 16 l, imr := 0x01 }
      0 < l ∧ l < 65536 ∧ c.delay = 0 ∧ c.feed = 0 ∧ c.cra = 0 ∧ c.latchA = BitVec.ofNat 16 l ∧ c.icr = 0 ∧
      c.irqOut = false ∧ c.imr &&& 0xFE = 0 := by decide

theorem witness_IcrAcknowledge :
    benchCfg.ciaModel = .mos6526 ∧ benchCfg.ciaTimerBBug = false ∧ benchCfg.ciaBitsOk = true ∧ Cia.reset.icrNext = 0 :=
  ⟨rfl, rfl, by decide, rfl⟩

theorem witness_TodTenTicks :
    ∀ t ∈ [(⟨0, 0, 0x59, 9⟩ : TodTime), ⟨0, 0, 0, 0⟩], t.tenths.toNat ≤ 9 ∧ t.seconds.toNat % 16 ≤ 9 ∧
      t.seconds.toNat / 16 ≤ 5 := by decide

/-- Both clauses on the cycle, at the last line; and a state whose CPU has a row. -/
theorem witness_RasterFrame :
    (State.reset.cfg.vicModel = .pal6569 ∧ State.reset.cpu.currentRow State.reset.cfg = some fetchRow) ∧
    ∀ c ∈ [1, 63], let v : Vic := { Vic.reset with line := 311, cycle := c }
      1 ≤ v.cycle ∧ v.cycle ≤ VicModel.pal6569.cyclesPerLine ∧ v.line < VicModel.pal6569.linesPerFrame :=
  ⟨⟨rfl, rfl⟩, by decide⟩

theorem witness_GcrRoundTrip : Config.standardGcr.length = 16 ∧ Config.standardGcr.Nodup := by decide

theorem witness_ProtectedDiskKept :
    ({ Drive.reset Config.default.resetRegs with disk := { Disk.blank with writeProtected := true } } :
      Drive).disk.writeProtected = true := rfl
end

section
/-! The flag instructions (46_flags_nop.md R290 to R296): the decoder fixes the opcode byte, a cycle in which RDY is high
runs its row at once, and so the two rows of `T_IMP` take two cycles. -/

namespace Sys2Proof

/-! ## What the decoder answers has the opcode it was given (30_encoding.md R111) -/

/-- The instruction a form makes of an operand byte or word. -/
def Form.instr (b : Byte) (w : Word) : Form → Instr
  | .f1 i => i
  | .f2 f => f b
  | .f3 f => f w

/-- The 256 rows of the map, each computed with its operand left open. -/
theorem opcode_instr_opcodeForm (b : Byte) (w : Word) : ∀ op : Byte, ((opcodeForm op).instr b w).opcode = op :=
  of_decide_eq_true (Eq.refl true)

/-- A successful decoding completes the form of the first byte. -/
theorem exists_instr_of_decode {op : Byte} {bs rest : List Byte} {i : Instr} (h : decode (op :: bs) = .ok (i, rest)) :
    ∃ b w, i = (opcodeForm op).instr b w := by
  simp only [decode] at h
  cases hf : opcodeForm op with
  | f1 j => rw [hf] at h; cases h; exact ⟨0, 0, rfl⟩
  | f2 f =>
    rw [hf] at h
    cases bs with
    | nil => cases h
    | cons b _ => cases h; exact ⟨b, 0, rfl⟩
  | f3 f =>
    rw [hf] at h
    match bs, h with
    | b :: c :: _, h => cases h; exact ⟨0, cat c b, rfl⟩

theorem opcode_of_decode {op : Byte} {bs rest : List Byte} {i : Instr} (h : decode (op :: bs) = .ok (i, rest)) :
    i.opcode = op := by
  obtain ⟨b, w, rfl⟩ := exists_instr_of_decode h
  exact opcode_instr_opcodeForm b w op

namespace Machine

/-! ## A step that fetches -/

/-- `s` is about to fetch and run `i` (40_datapath_cycles.md R142, 60_exceptions.md R411). -/
structure State.Fetches (s : State) (i : Instr) (rest : List Byte) : Prop where
  noReset : s.inputs.resetReq = none
  atFetch : s.cpu.mip = .fetch
  noNmi : s.cpu.doNmi = false
  noIrq : s.cpu.doIrq = false
  decoded : decode s.fetchBytes = .ok (i, rest)

theorem State.Fetches.step_eq {s : State} {i : Instr} {rest : List Byte} (h : s.Fetches i rest) : step s = exec i s := by
  simp [step, State.stepBoundary, State.stepFetched, h.noReset, h.atFetch, h.noNmi, h.noIrq, h.decoded]

theorem State.Fetches.nextRead_pc {s : State} {i : Instr} {rest : List Byte} (h : s.Fetches i rest) :
    s.nextRead s.cpu.pc = i.opcode := (opcode_of_decode h.decoded).symm

/-- Delivering the byte that the fetch reads anyway changes nothing. -/
theorem State.runRow_fetchRow_nextRead (s : State) :
    s.runRow fetchRow (some (s.nextRead s.cpu.pc)) = s.runRow fetchRow none := by
  simp [State.runRow, fetchRow, State.performRead, State.nextRead]

/-! ## Rows in cycles that the VIC-II does not steal -/

theorem State.readSlot_of_rdy {s : State} (h : s.devices.cpu.lines.rdy = true) : s.readSlot = s.devices := by
  simp [State.readSlot, State.readLoop, h]

/-- A read row that gets the bus at once takes one cycle, if its effect leaves the lines alone. -/
theorem State.runRow_read_cycle {s : State} (h : s.devices.cpu.lines.rdy = true) {addr : Cpu → Word}
    {k : Byte → Cpu → Cpu} (hk : ∀ v c, (k v c).lines = c.lines) (ov : Option Byte) :
    (s.runRow (.read addr k) ov).cpu.lines.cycle = s.cpu.lines.cycle + 1 := by
  simp [hk, State.readSlot_of_rdy h]

theorem State.runRow_fetchRow_cycle {s : State} (h : s.devices.cpu.lines.rdy = true) (ov : Option Byte) :
    (s.runRow fetchRow ov).cpu.lines.cycle = s.cpu.lines.cycle + 1 := by
  rw [fetchRow, State.runRow_read_cycle h]
  exact fun _ _ => rfl

/-- The clock cycle of a fetch that gets the bus at once is the fetch row. -/
theorem State.Fetches.clock_eq {s : State} {i : Instr} {rest : List Byte} (h : s.Fetches i rest)
    (hr : s.devices.cpu.lines.rdy = true) : s.clock = s.runRow fetchRow none := by
  simp [State.clock, Cpu.currentRow, h.atFetch, h.noNmi, h.noIrq, fetchRow, hr, State.runRow, State.readSlot_of_rdy hr]

/-! ## `T_IMP` -/

/-- The fetch and the one row after it. -/
theorem State.runInstr_tImp (op : Byte) (f : Cpu → Cpu) (s : State) :
    s.runInstr [op] (tImp f) = (s.runRow fetchRow (some op)).runRow (.read (·.pc) fun _ c => (f c.poll).done) none := by
  simp [State.runInstr, State.runRows_cons2, fetchRow, tImp, dummyRow]

/-- With no stall an implied instruction takes two cycles (40_datapath_cycles.md R170). -/
theorem State.Fetches.implied_takes_two {i : Instr} {f : Cpu → Cpu}
    (he : ∀ s, exec i s = .next (s.runInstr [i.opcode] (tImp f))) (hf : ∀ c, (f c).lines = c.lines)
    {s : State} {rest : List Byte} (h : s.Fetches i rest) (hu : s.Unstalled) :
    ∃ t, step s = .next t ∧ t.cpu.lines.cycle = s.cpu.lines.cycle + 2 := by
  have rdy1 : s.devices.cpu.lines.rdy = true := hu 0 (by decide)
  have rdy2 : s.clock.devices.cpu.lines.rdy = true := hu 1 (by decide)
  have first : s.clock = s.runRow fetchRow none := h.clock_eq rdy1
  have run : s.runInstr [i.opcode] (tImp f) = s.clock.runRow (.read (·.pc) fun _ c => (f c.poll).done) none := by
    rw [State.runInstr_tImp, ← h.nextRead_pc, State.runRow_fetchRow_nextRead, first]
  refine ⟨_, h.step_eq.trans (he s), ?_⟩
  rw [run, State.runRow_read_cycle rdy2, first, State.runRow_fetchRow_cycle rdy1, BitVec.add_assoc]
  · rfl
  · exact fun _ c => hf c.poll

end Machine

open Machine

/-- Settles O38: each is `T_IMP` with an operation that writes one flag, and `T_IMP` takes two unstalled cycles. -/
theorem flagInstructions : Obligations.FlagInstructions := by
  refine ⟨computes_imp spec_clc fun _ => rfl, computes_imp spec_sec fun _ => rfl, computes_imp spec_cli fun _ => rfl,
    computes_imp spec_sei fun _ => rfl, computes_imp spec_cld fun _ => rfl, computes_imp spec_sed fun _ => rfl,
    computes_imp spec_clv fun _ => rfl, fun p hp => ?_⟩
  have implied : encode p.1 = [p.2] ∧
      ∃ f : Cpu → Cpu, (∀ s, exec p.1 s = .next (s.runInstr [p.1.opcode] (tImp f))) ∧ ∀ c, (f c).lines = c.lines := by
    revert p
    simp only [List.forall_mem_cons]
    exact ⟨⟨rfl, aluClc, fun _ => rfl, fun _ => rfl⟩, ⟨rfl, aluSec, fun _ => rfl, fun _ => rfl⟩,
      ⟨rfl, aluCli, fun _ => rfl, fun _ => rfl⟩, ⟨rfl, aluSei, fun _ => rfl, fun _ => rfl⟩,
      ⟨rfl, aluCld, fun _ => rfl, fun _ => rfl⟩, ⟨rfl, aluSed, fun _ => rfl, fun _ => rfl⟩,
      ⟨rfl, aluClv, fun _ => rfl, fun _ => rfl⟩, List.forall_mem_nil _⟩
  obtain ⟨henc, f, he, hf⟩ := implied
  exact ⟨henc, fun s rest noReset atFetch noNmi noIrq decoded hu =>
    State.Fetches.implied_takes_two he hf ⟨noReset, atFetch, noNmi, noIrq, decoded⟩ hu⟩

end Sys2Proof
end

section
/-! The interrupt lines (60_exceptions.md R404, R409) and the VIC-II's collision registers (R486). Of a VIC-II cycle's phases
only `collisionPhase` writes a collision register, and it only sets bits. -/

namespace Sys2Proof

namespace Machine

/-! ## What each phase of a VIC-II cycle leaves in the collision registers -/

/-- The two collision registers: sprite with sprite (`$1E`), sprite with data (`$1F`). -/
def Vic.collisions (v : Vic) : Byte × Byte := (v.mm, v.md)

@[simp] theorem Vic.irqPhase_collisions (v : Vic) : v.irqPhase.collisions = v.collisions := rfl
@[simp] theorem Vic.badLinePhase_collisions (v : Vic) : v.badLinePhase.collisions = v.collisions := rfl
@[simp] theorem Vic.spritePhase_collisions (m : VicModel) (i : VicInputs) (v : Vic) :
    (v.spritePhase m i).collisions = v.collisions := rfl
@[simp] theorem Vic.spriteEnd_collisions (m : VicModel) (v : Vic) : (v.spriteEnd m).collisions = v.collisions := rfl
@[simp] theorem Vic.copyPhase_collisions (v : Vic) : v.copyPhase.collisions = v.collisions := rfl
@[simp] theorem Vic.shiftPipe_collisions (v : Vic) : v.shiftPipe.collisions = v.collisions := rfl

@[simp] theorem Vic.frameStart_collisions (v : Vic) : v.frameStart.collisions = v.collisions := by
  unfold Vic.frameStart; split <;> rfl

@[simp] theorem Vic.rasterPhase_collisions (v : Vic) : v.rasterPhase.collisions = v.collisions := by
  unfold Vic.rasterPhase; repeat' split
  all_goals rfl

@[simp] theorem Vic.rowStart_collisions (v : Vic) : v.rowStart.collisions = v.collisions := by
  unfold Vic.rowStart; split <;> rfl

@[simp] theorem Vic.afterG_collisions (v : Vic) : v.afterG.collisions = v.collisions := by
  unfold Vic.afterG; split <;> rfl

@[simp] theorem Vic.gAccess_collisions (i : VicInputs) (v : Vic) : (v.gAccess i).collisions = v.collisions :=
  v.afterG_collisions

@[simp] theorem Vic.cAccess_collisions (i : VicInputs) (v : Vic) : (v.cAccess i).collisions = v.collisions := by
  unfold Vic.cAccess; split <;> rfl

@[simp] theorem Vic.rowEnd_collisions (v : Vic) : v.rowEnd.collisions = v.collisions := by
  simp only [Vic.rowEnd]; repeat' split
  all_goals rfl

@[simp] theorem Vic.borderPhase_collisions (m : VicModel) (v : Vic) : (v.borderPhase m).collisions = v.collisions := by
  simp only [Vic.borderPhase]; repeat' split
  all_goals rfl

@[simp] theorem Vic.lightPenPhase_collisions (i : VicInputs) (v : Vic) :
    (v.lightPenPhase i).collisions = v.collisions := by
  unfold Vic.lightPenPhase; split <;> rfl

@[simp] theorem Vic.noteIrq_collisions (stage : Nat) (v : Vic) : (v.noteIrq stage).collisions = v.collisions := by
  unfold Vic.noteIrq; repeat' split
  all_goals rfl

/-! ## The cycle: the phases before the collisions, the collisions, the end -/

/-- The cycle as far as the light pen. -/
def Vic.beforeCollisions (m : VicModel) (i : VicInputs) (v : Vic) : Vic :=
  (((v.rowPhase i).spritePhase m i).borderPhase m).lightPenPhase i

/-- The cycle from RDY on. -/
def Vic.afterCollisions (m : VicModel) (v : Vic) : Vic :=
  ((({ v with ba := v.rdyNow m }.spriteEnd m).copyPhase).noteIrq 0).shiftPipe

theorem Vic.step_eq (m : VicModel) (i : VicInputs) (v : Vic) :
    v.step m i = ((v.beforeCollisions m i).collisionPhase i).afterCollisions m := rfl

@[simp] theorem Vic.beforeCollisions_collisions (m : VicModel) (i : VicInputs) (v : Vic) :
    (v.beforeCollisions m i).collisions = v.collisions := by
  simp [Vic.beforeCollisions, Vic.rowPhase, Vic.conditions]

@[simp] theorem Vic.afterCollisions_collisions (m : VicModel) (v : Vic) :
    (v.afterCollisions m).collisions = v.collisions := by
  simp only [Vic.afterCollisions, Vic.shiftPipe_collisions, Vic.noteIrq_collisions, Vic.copyPhase_collisions,
    Vic.spriteEnd_collisions]
  rfl

theorem Vic.collisionPhase_collisions (i : VicInputs) (v : Vic) :
    (v.collisionPhase i).collisions = (v.collisions.1 ||| atLeastTwo (i.free0 &&& v.activeSprites),
      v.collisions.2 ||| (i.free1 &&& v.activeSprites)) := rfl

/-- A cycle adds to the collision registers the collisions it sees (R485). -/
theorem Vic.step_collisions (m : VicModel) (i : VicInputs) (v : Vic) :
    (v.step m i).collisions = (v.mm ||| atLeastTwo (i.free0 &&& (v.beforeCollisions m i).activeSprites),
      v.md ||| (i.free1 &&& (v.beforeCollisions m i).activeSprites)) := by
  rw [Vic.step_eq, Vic.afterCollisions_collisions, Vic.collisionPhase_collisions, Vic.beforeCollisions_collisions]
  rfl

/-! ## Accesses of the collision registers -/

theorem Vic.read_mm (v : Vic) : v.read 0x1E = (v.mm, { v with mm := 0 }) := rfl
theorem Vic.read_md (v : Vic) : v.read 0x1F = (v.md, { v with md := 0 }) := rfl
theorem Vic.write_mm (cfg : Config) (x : Byte) (v : Vic) : v.write cfg 0x1E x = v := rfl
theorem Vic.write_md (cfg : Config) (x : Byte) (v : Vic) : v.write cfg 0x1F x = v := rfl

/-- A register keeps its bits when others are set. -/
theorem or_and_self_left (a b : Byte) : (a ||| b) &&& a = a := by
  ext k
  rw [BitVec.getElem_and, BitVec.getElem_or, Bool.and_eq_right_iff_imp]
  exact fun h => by rw [h, Bool.true_or]

end Machine

open Machine

/-- Settles O20: each operation is its rule; "the mask was 0" is the model's comparison `== 0`. -/
theorem interruptLines : Obligations.InterruptLines := by
  unfold Obligations.InterruptLines
  refine ⟨fun l src => ⟨rfl, ?_⟩, fun c => ⟨rfl, rfl⟩⟩
  simp only [Lines.pullNmi, beq_eq_decide]
  rfl

/-- Settles O57: a cycle only sets bits of the registers, and the two accesses are their equations. -/
theorem collisionRegisters : Obligations.CollisionRegisters := by
  intro m i cfg x v
  obtain ⟨hmm, hmd⟩ := Prod.mk.inj (v.step_collisions m i)
  refine ⟨?_, ?_, v.read_mm, v.read_md, v.write_mm cfg x, v.write_md cfg x⟩
  · rw [hmm, or_and_self_left]
  · rw [hmd, or_and_self_left]

end Sys2Proof
end

section
/-! Encoding (30_encoding.md): an instruction is the form of its opcode byte completed with its operand, and its bytes are
that form's word. Decoding reads a word and nothing else. -/

namespace Sys2Proof

/-- The bytes of the form that opcode byte `op` selects, with operand byte `b` or operand word `w` (R110, R112). -/
def Form.word (op b : Byte) (w : Word) : Form → List Byte
  | .f1 _ => [op]
  | .f2 _ => [op, b]
  | .f3 _ => [op, lo w, hi w]

theorem decode_word (op b : Byte) (w : Word) (rest : List Byte) :
    decode ((opcodeForm op).word op b w ++ rest) = .ok ((opcodeForm op).instr b w, rest) := by
  unfold decode
  cases h : opcodeForm op <;> simp [Form.word, Form.instr, h]

/-- A successful decoding has read the word of the form of the first byte. -/
theorem word_of_decode {bytes rest : List Byte} {i : Instr} (h : decode bytes = .ok (i, rest)) :
    ∃ op b w, i = (opcodeForm op).instr b w ∧ (opcodeForm op).word op b w ++ rest = bytes := by
  unfold decode at h
  split at h
  · cases h
  · rename_i op bs
    refine ⟨op, bs.headD 0, cat (bs.tail.headD 0) (bs.headD 0), ?_⟩
    split at h
    · cases h; simp [*, Form.word, Form.instr]
    · split at h
      · cases h; simp [*, Form.word, Form.instr]
      · cases h
    · split at h
      · cases h; simp [*, Form.word, Form.instr]
      · cases h

/-- The form of an instruction's own opcode byte makes it. -/
theorem exists_instr_opcodeForm (i : Instr) : ∃ b w, (opcodeForm i.opcode).instr b w = i := by
  cases i <;> dsimp only [Instr.opcode, encode, List.headD] <;> refine' ⟨_, _, rfl⟩
  all_goals exact 0#_

theorem encode_instr_opcodeForm (op b : Byte) (w : Word) :
    encode ((opcodeForm op).instr b w) = (opcodeForm op).word op b w := by
  have own (i : Instr) : encode ((opcodeForm i.opcode).instr b w) = (opcodeForm i.opcode).word i.opcode b w := by
    cases i <;> dsimp only [Instr.opcode, encode, List.headD] <;> rfl
  rw [← opcode_instr_opcodeForm 0 0 op]
  exact own _

theorem decode_encode (i : Instr) (rest : List Byte) : decode (encode i ++ rest) = .ok (i, rest) := by
  obtain ⟨b, w, h⟩ := exists_instr_opcodeForm i
  have hw := encode_instr_opcodeForm i.opcode b w
  rw [h] at hw
  rw [hw, decode_word, h]

theorem encode_append_of_decode {bytes rest : List Byte} {i : Instr} (h : decode bytes = .ok (i, rest)) :
    encode i ++ rest = bytes := by
  obtain ⟨op, b, w, rfl, rfl⟩ := word_of_decode h
  rw [encode_instr_opcodeForm]

/-- Three bytes hold an instruction of any format, so the decoder never runs out of bytes (R118). -/
theorem decode_three (op b1 b2 : Byte) :
    ∃ rest, decode [op, b1, b2] = .ok ((opcodeForm op).instr b1 (cat b2 b1), rest) ∧
      rest.length + opcodeLength op = 3 := by
  unfold decode opcodeLength
  cases h : opcodeForm op <;> simp [Form.instr, h]

theorem length_encode (i : Instr) : (encode i).length = opcodeLength i.opcode := by
  obtain ⟨b, w, h⟩ := exists_instr_opcodeForm i
  rw [← h, encode_instr_opcodeForm, opcode_instr_opcodeForm, opcodeLength]
  cases opcodeForm i.opcode <;> rfl

/-- Settles O1: the bytes of an instruction are the word of its form, and `decode` reads that word. -/
theorem decodeInvertsEncode : Obligations.DecodeInvertsEncode := decode_encode

/-- Settles O2: what `decode` has read is a word of the form that encodes the answer. -/
theorem encodeInvertsDecode : Obligations.EncodeInvertsDecode := fun _ _ _ => encode_append_of_decode

/-- Settles O3: three bytes hold the word of every form, and the form gives opcode byte and length. -/
theorem everyOpcodeDecodes : Obligations.EveryOpcodeDecodes := by
  intro op b1 b2
  obtain ⟨rest, hd, hl⟩ := decode_three op b1 b2
  have hop := opcode_instr_opcodeForm b1 (cat b2 b1) op
  exact ⟨_, rest, hd, hop, by rw [length_encode, hop], hl⟩

/-- Settles O4: fourteen rows of the map, computed. -/
theorem sampleWords : Obligations.SampleWords := ⟨rfl, rfl, rfl, rfl, rfl, rfl, rfl, rfl, rfl, rfl, rfl, rfl, rfl, rfl⟩

end Sys2Proof
end

section
/-! Every instruction's meaning is the microcode of its opcode byte run with its operand bytes delivered, and every such
list of rows is one of the cycle templates (40_datapath_cycles.md R150 to R177). -/

namespace Sys2Proof.Machine

/-- The bytes that the decoder delivers to the rows of `i`: all its bytes, but not the high byte of a `JSR` target, which
is read after the pushes (40 R173). -/
def delivered (i : Instr) : List Byte := if i.opcode = 0x20#8 then (encode i).take 2 else encode i

theorem exec_eq (i : Instr) (s : State) : exec i s = .next (s.runInstr (delivered i) (microcode s.cfg i.opcode)) := by
  cases i <;> dsimp only [Instr.opcode, encode, List.headD, delivered] <;> rfl

/-- `d` is `c` with other programmer's registers. -/
def Cpu.RegsOnly (c d : Cpu) : Prop := d = { c with a := d.a, x := d.x, y := d.y, sp := d.sp, p := d.p }

/-- What decides how many of a template's rows run: nothing, a page crossing of the operand's mode, or a branch's condition
and displacement. -/
inductive Timing
  | fixed
  | cross (m : EaMode)
  | branch (b : Byte) (cond : Flags → Bool)

/-- The rows of a cycle template, with the operand bytes delivered to them; `P` relates the CPU before and after what they do
to the programmer's registers: the data operation, and the moves of the stack pointer and the flags in the stack's templates. -/
inductive Template (P : Cpu → Cpu → Prop) : Timing → List Byte → List Row → Prop
  | imp {f} (hf : ∀ c, P c (f c)) : Template P .fixed [] (tImp f)
  | imm (b) {f} (hf : ∀ v c, P c (f v c)) : Template P .fixed [b] (tImm f)
  | zpR (b) {f} (hf : ∀ v c, P c (f v c)) : Template P .fixed [b] (tZpR f)
  | zpW (b) {o} (ho : ∀ c, P c (o.post c)) : Template P .fixed [b] (tZpW o)
  | zpM (b) {f} (hf : ∀ v c, P c (f v c).2) : Template P .fixed [b] (tZpM f)
  | zpxR (b) {f} (hf : ∀ v c, P c (f v c)) : Template P .fixed [b] (tZpIdxR (·.x) f)
  | zpxW (b) {o} (ho : ∀ c, P c (o.post c)) : Template P .fixed [b] (tZpIdxW (·.x) o)
  | zpxM (b) {f} (hf : ∀ v c, P c (f v c).2) : Template P .fixed [b] (tZpIdxM (·.x) f)
  | zpyR (b) {f} (hf : ∀ v c, P c (f v c)) : Template P .fixed [b] (tZpIdxR (·.y) f)
  | zpyW (b) {o} (ho : ∀ c, P c (o.post c)) : Template P .fixed [b] (tZpIdxW (·.y) o)
  | absR (w) {f} (hf : ∀ v c, P c (f v c)) : Template P .fixed [lo w, hi w] (tAbsR f)
  | absW (w) {o} (ho : ∀ c, P c (o.post c)) : Template P .fixed [lo w, hi w] (tAbsW o)
  | absM (w) {f} (hf : ∀ v c, P c (f v c).2) : Template P .fixed [lo w, hi w] (tAbsM f)
  | abxR (w) {f} (hf : ∀ v c, P c (f v c)) : Template P (.cross (.abx w)) [lo w, hi w] (tAbsIdxR (·.x) f)
  | abxW (w) {o} (ho : ∀ c, P c (o.post c)) : Template P .fixed [lo w, hi w] (tAbsIdxW (·.x) o)
  | abxM (w) {f} (hf : ∀ v c, P c (f v c).2) : Template P .fixed [lo w, hi w] (tAbsIdxM (·.x) f)
  | abyR (w) {f} (hf : ∀ v c, P c (f v c)) : Template P (.cross (.aby w)) [lo w, hi w] (tAbsIdxR (·.y) f)
  | abyW (w) {o} (ho : ∀ c, P c (o.post c)) : Template P .fixed [lo w, hi w] (tAbsIdxW (·.y) o)
  | abyM (w) {f} (hf : ∀ v c, P c (f v c).2) : Template P .fixed [lo w, hi w] (tAbsIdxM (·.y) f)
  | izxR (b) {f} (hf : ∀ v c, P c (f v c)) : Template P .fixed [b] (tIzxR f)
  | izxW (b) {o} (ho : ∀ c, P c (o.post c)) : Template P .fixed [b] (tIzxW o)
  | izxM (b) {f} (hf : ∀ v c, P c (f v c).2) : Template P .fixed [b] (tIzxM f)
  | izyR (b) {f} (hf : ∀ v c, P c (f v c)) : Template P (.cross (.izy b)) [b] (tIzyR f)
  | izyW (b) {o} (ho : ∀ c, P c (o.post c)) : Template P .fixed [b] (tIzyW o)
  | izyM (b) {f} (hf : ∀ v c, P c (f v c).2) : Template P .fixed [b] (tIzyM f)
  | absUnstable (w) {idx reg post} (hp : ∀ c, P c (post c)) :
      Template P .fixed [lo w, hi w] (tAbsIdxUnstable idx reg post)
  | izyUnstable (b) {reg post} (hp : ∀ c, P c (post c)) : Template P .fixed [b] (tIzyUnstable reg post)
  | rel (b cond) : Template P (.branch b cond) [b] (tRel cond)
  | jmpAbs (w) : Template P .fixed [lo w, hi w] tJmpAbs
  | jmpInd (w) : Template P .fixed [lo w, hi w] tJmpInd
  | jsr (b) (hs : ∀ c, P c { c with sp := c.sp - 1 }) : Template P .fixed [b] tJsr
  | rts (hs : ∀ c, P c { c with sp := c.sp + 1 }) : Template P .fixed [] tRts
  | rti (hs : ∀ c, P c { c with sp := c.sp + 1 }) (hp : ∀ v c, P c { c with p := Flags.pull v, sp := c.sp + 1 }) :
      Template P .fixed [] rtiRows
  | brk (hs : ∀ c, P c { c with sp := c.sp - 1 }) (hp : ∀ c, P c { c with p := { c.p with i := true } }) :
      Template P .fixed [] brkRows
  | push (v) (hs : ∀ c, P c { c with sp := c.sp - 1 }) : Template P .fixed [] (tPush v)
  | pull {f} (hs : ∀ c, P c { c with sp := c.sp + 1 }) (hf : ∀ v c, P c (f v c)) : Template P .fixed [] (tPull f)
  | jam : Template P .fixed [] tJam

/-- The cycles beyond the least that the opcode takes. -/
def Timing.extra (op : Byte) (s : State) : Timing → Nat
  | .fixed => 0
  | .cross m => if m.crosses op s then 1 else 0
  | .branch b cond => branchExtra (cond s.cpu.p) b s

/-- The rows of a template that the least count leaves out. -/
def Timing.slack : Timing → Nat
  | .fixed => 0
  | .cross _ => 1
  | .branch _ _ => 2

/-- Every instruction's rows are a template, and its columns of the opcode table count their cycles. -/
theorem exists_template (cfg : Config) (i : Instr) :
    ∃ T, Template Cpu.RegsOnly T (delivered i).tail (microcode cfg i.opcode) ∧
      (∀ s, extraCycles i s = T.extra i.opcode s) ∧
      opcodeCycles i.opcode + T.slack = (microcode cfg i.opcode).length + 1 := by
  cases i <;> dsimp only [Instr.opcode, encode, List.headD, delivered]
  case bpl b => exact ⟨_, .rel b fun p => !p.n, fun _ => rfl, rfl⟩
  case bvc b => exact ⟨_, .rel b fun p => !p.v, fun _ => rfl, rfl⟩
  case bcc b => exact ⟨_, .rel b fun p => !p.c, fun _ => rfl, rfl⟩
  case bne b => exact ⟨_, .rel b fun p => !p.z, fun _ => rfl, rfl⟩
  all_goals refine ⟨_, by constructor <;> intros <;> rfl, fun _ => rfl, rfl⟩

/-- Every opcode byte selects a template. -/
theorem exists_template_microcode (cfg : Config) (op : Byte) :
    ∃ T bs, Template Cpu.RegsOnly T bs (microcode cfg op) := by
  obtain ⟨T, h, _⟩ := exists_template cfg ((opcodeForm op).instr 0 0)
  rw [opcode_instr_opcodeForm] at h
  exact ⟨T, _, h⟩

end Sys2Proof.Machine
end

section
/-! What the rows of a template do to the CPU (40_datapath_cycles.md R141, R143, R147): none touches the lines; every row but
the last stays inside the instruction, and the last one ends it. -/

namespace Sys2Proof.Machine

/-! ## Rows -/

/-- `c'` is a CPU that the row's effect can make of `c`. -/
def Row.Result (r : Row) (c c' : Cpu) : Prop :=
  match r with
  | .read _ k => ∃ v, c' = k v c
  | .write _ _ k => c' = k c

/-- The row leaves the lines, `mip` and the jam flag. -/
def Row.Inner (r : Row) : Prop := ∀ c c', r.Result c c' → c'.lines = c.lines ∧ c'.mip = c.mip ∧ c'.jamFlag = c.jamFlag

/-- The row ends the instruction. -/
def Row.Last (r : Row) : Prop := ∀ c c', r.Result c c' → c'.lines = c.lines ∧ c'.mip = .fetch ∧ c'.jamFlag = c.jamFlag

/-- The row does one of the two, or jams the CPU. -/
def Row.Regular (r : Row) : Prop := ∀ c c', r.Result c c' → c'.lines = c.lines ∧
  ((c'.mip = c.mip ∨ c'.mip = .fetch) ∧ c'.jamFlag = c.jamFlag ∨ c'.mip = .jammed ∧ c'.jamFlag = true)

theorem Row.Inner.regular {r : Row} (h : r.Inner) : r.Regular := fun c c' hr =>
  have ⟨hl, hm, hj⟩ := h c c' hr
  ⟨hl, .inl ⟨.inl hm, hj⟩⟩

theorem Row.Last.regular {r : Row} (h : r.Last) : r.Regular := fun c c' hr =>
  have ⟨hl, hm, hj⟩ := h c c' hr
  ⟨hl, .inl ⟨.inr hm, hj⟩⟩

theorem inner_read {addr : Cpu → Word} {k : Byte → Cpu → Cpu}
    (h : ∀ v c, (k v c).lines = c.lines ∧ (k v c).mip = c.mip ∧ (k v c).jamFlag = c.jamFlag) :
    Row.Inner (.read addr k) := by rintro c _ ⟨v, rfl⟩; exact h v c

theorem inner_write {addr : Cpu → Word} {val : Cpu → Byte} {k : Cpu → Cpu}
    (h : ∀ c, (k c).lines = c.lines ∧ (k c).mip = c.mip ∧ (k c).jamFlag = c.jamFlag) :
    Row.Inner (.write addr val k) := by rintro c _ rfl; exact h c

theorem last_read {addr : Cpu → Word} {k : Byte → Cpu → Cpu}
    (h : ∀ v c, (k v c).lines = c.lines ∧ (k v c).mip = .fetch ∧ (k v c).jamFlag = c.jamFlag) :
    Row.Last (.read addr k) := by rintro c _ ⟨v, rfl⟩; exact h v c

theorem last_write {addr : Cpu → Word} {val : Cpu → Byte} {k : Cpu → Cpu}
    (h : ∀ c, (k c).lines = c.lines ∧ (k c).mip = .fetch ∧ (k c).jamFlag = c.jamFlag) :
    Row.Last (.write addr val k) := by rintro c _ rfl; exact h c

theorem Cpu.RegsOnly.lines {c d : Cpu} (h : c.RegsOnly d) : d.lines = c.lines := by rw [h]
theorem Cpu.RegsOnly.jamFlag {c d : Cpu} (h : c.RegsOnly d) : d.jamFlag = c.jamFlag := by rw [h]
theorem Cpu.RegsOnly.mip {c d : Cpu} (h : c.RegsOnly d) : d.mip = c.mip := by rw [h]

@[simp] theorem inner_opLoRow : opLoRow.Inner := inner_read fun _ _ => ⟨rfl, rfl, rfl⟩
@[simp] theorem inner_opHiRow : opHiRow.Inner := inner_read fun _ _ => ⟨rfl, rfl, rfl⟩
@[simp] theorem inner_opHiIdxRow (idx : Cpu → Byte) : (opHiIdxRow idx).Inner := inner_read fun _ _ => ⟨rfl, rfl, rfl⟩
@[simp] theorem inner_opPtrRow : opPtrRow.Inner := inner_read fun _ _ => ⟨rfl, rfl, rfl⟩
@[simp] theorem inner_zpIdxRow (idx : Cpu → Byte) : (zpIdxRow idx).Inner := inner_read fun _ _ => ⟨rfl, rfl, rfl⟩
@[simp] theorem inner_ptrIdxRow : ptrIdxRow.Inner := inner_read fun _ _ => ⟨rfl, rfl, rfl⟩
@[simp] theorem inner_ptrLoRow : ptrLoRow.Inner := inner_read fun _ _ => ⟨rfl, rfl, rfl⟩
@[simp] theorem inner_ptrHiRow : ptrHiRow.Inner := inner_read fun _ _ => ⟨rfl, rfl, rfl⟩
@[simp] theorem inner_ptrHiIdxRow : ptrHiIdxRow.Inner := inner_read fun _ _ => ⟨rfl, rfl, rfl⟩
@[simp] theorem inner_readDataRow (addr : Cpu → Word) : (readDataRow addr).Inner := inner_read fun _ _ => ⟨rfl, rfl, rfl⟩
@[simp] theorem inner_writeOldRow (addr : Cpu → Word) : (writeOldRow addr).Inner := inner_write fun _ => ⟨rfl, rfl, rfl⟩
@[simp] theorem inner_dummyRow_id (addr : Cpu → Word) : (dummyRow addr id).Inner := inner_read fun _ _ => ⟨rfl, rfl, rfl⟩
@[simp] theorem inner_popDummyRow : popDummyRow.Inner := inner_read fun _ _ => ⟨rfl, rfl, rfl⟩
@[simp] theorem inner_pushRow (val : Cpu → Byte) : (pushRow val).Inner := inner_write fun _ => ⟨rfl, rfl, rfl⟩

@[simp] theorem inner_fixupRow (idx : Cpu → Byte) : (fixupRow idx).Inner :=
  inner_read fun _ c => by split <;> exact ⟨rfl, rfl, rfl⟩

theorem last_readEndRow (addr : Cpu → Word) {f : ReadOp} (hf : ∀ v c, Cpu.RegsOnly c (f v c)) :
    (readEndRow addr f).Last := last_read fun v _ => ⟨(hf v _).lines, rfl, (hf v _).jamFlag⟩

theorem last_writeEndRow (addr : Cpu → Word) {o : WriteOp} (ho : ∀ c, Cpu.RegsOnly c (o.post c)) :
    (writeEndRow addr o).Last := last_write fun _ => ⟨(ho _).lines, rfl, (ho _).jamFlag⟩

theorem last_writeNewRow (addr : Cpu → Word) {f : ModifyOp} (hf : ∀ v c, Cpu.RegsOnly c (f v c).2) :
    (writeNewRow addr f).Last := last_write fun c => ⟨(hf c.d _).lines, rfl, (hf c.d _).jamFlag⟩

theorem last_unstableRow (idx reg : Cpu → Byte) {post : Cpu → Cpu} (hp : ∀ c, Cpu.RegsOnly c (post c)) :
    (unstableRow idx reg post).Last := last_write fun _ => ⟨(hp _).lines, rfl, (hp _).jamFlag⟩

theorem regular_readCrossRow (idx : Cpu → Byte) {f : ReadOp} (hf : ∀ v c, Cpu.RegsOnly c (f v c)) :
    (readCrossRow idx f).Regular := by
  rintro c _ ⟨v, rfl⟩
  dsimp only
  split
  · exact ⟨rfl, .inl ⟨.inl rfl, rfl⟩⟩
  · exact ⟨(hf v _).lines, .inl ⟨.inr rfl, (hf v _).jamFlag⟩⟩

/-! ## Lists of rows -/

/-- How a list of rows ends: after its last row; in its last row but one if the index did not cross a page; as a branch
does; or in a jam. -/
inductive Shape : Timing → List Row → Prop
  | straight {lead : List Row} {last : Row} (hi : ∀ r ∈ lead, r.Inner) (hl : last.Last) : Shape .fixed (lead ++ [last])
  | cross (m : EaMode) {lead : List Row} (idx : Cpu → Byte) {f : ReadOp} (hi : ∀ r ∈ lead, r.Inner)
      (hf : ∀ v c, Cpu.RegsOnly c (f v c)) : Shape (.cross m) (lead ++ [readCrossRow idx f, readEndRow Cpu.absAddr f])
  | rel (b : Byte) (cond : Flags → Bool) : Shape (.branch b cond) (tRel cond)
  | jam : Shape .fixed tJam

theorem shape_entryRows (b : Bool) (vec : Word) {lead : List Row} (h : ∀ r ∈ lead, r.Inner) :
    Shape .fixed (lead ++ entryRows b vec) := by
  have e : lead ++ entryRows b vec = (lead ++ (entryRows b vec).take 4) ++ (entryRows b vec).drop 4 := by
    rw [List.append_assoc, List.take_append_drop]
  rw [e]
  refine .straight ?_ (last_read fun _ _ => ⟨rfl, rfl, rfl⟩)
  simp only [List.forall_mem_append, entryRows, List.take_succ_cons, List.take_zero, List.forall_mem_cons,
    inner_pushRow, true_and]
  exact ⟨h, inner_read fun _ _ => ⟨rfl, rfl, rfl⟩, List.forall_mem_nil _⟩

theorem shape_intRows (k : IntKind) : Shape .fixed (intRows k) :=
  shape_entryRows false k.vector (lead := [dummyRow (·.pc) id]) (by simp)

theorem Template.shape {T : Timing} {bs : List Byte} {rows : List Row} (h : Template Cpu.RegsOnly T bs rows) :
    Shape T rows := by
  have tail {addr : Cpu → Word} {lead : List Row} {f : ModifyOp} (hf : ∀ v c, Cpu.RegsOnly c (f v c).2)
      (hi : ∀ r ∈ lead, r.Inner) : Shape .fixed (lead ++ modifyRows addr f) := by
    have := Shape.straight (lead := lead ++ [readDataRow addr, writeOldRow addr]) (last := writeNewRow addr f)
      (by simpa [or_imp, forall_and] using hi) (last_writeNewRow addr hf)
    simpa [modifyRows] using this
  cases h with
  | imp hf => exact .straight (lead := []) (by simp) (last_read fun _ _ => ⟨(hf _).lines, rfl, (hf _).jamFlag⟩)
  | imm b hf => exact .straight (lead := []) (by simp) (last_read fun v _ => ⟨(hf v _).lines, rfl, (hf v _).jamFlag⟩)
  | zpR b hf => exact .straight (lead := [_]) (by simp) (last_readEndRow _ hf)
  | zpW b ho => exact .straight (lead := [_]) (by simp) (last_writeEndRow _ ho)
  | zpM b hf => exact tail (lead := [_]) hf (by simp)
  | zpxR b hf | zpyR b hf => exact .straight (lead := [_, _]) (by simp) (last_readEndRow _ hf)
  | zpxW b ho | zpyW b ho => exact .straight (lead := [_, _]) (by simp) (last_writeEndRow _ ho)
  | zpxM b hf => exact tail (lead := [_, _]) hf (by simp)
  | absR w hf => exact .straight (lead := [_, _]) (by simp) (last_readEndRow _ hf)
  | absW w ho => exact .straight (lead := [_, _]) (by simp) (last_writeEndRow _ ho)
  | absM w hf => exact tail (lead := [_, _]) hf (by simp)
  | abxR w hf | abyR w hf => exact .cross _ (lead := [_, _]) _ (by simp) hf
  | abxW w ho | abyW w ho => exact .straight (lead := [_, _, _]) (by simp) (last_writeEndRow _ ho)
  | abxM w hf | abyM w hf => exact tail (lead := [_, _, _]) hf (by simp)
  | izxR b hf => exact .straight (lead := [_, _, _, _]) (by simp) (last_readEndRow _ hf)
  | izxW b ho => exact .straight (lead := [_, _, _, _]) (by simp) (last_writeEndRow _ ho)
  | izxM b hf => exact tail (lead := [_, _, _, _]) hf (by simp)
  | izyR b hf => exact .cross _ (lead := [_, _, _]) _ (by simp) hf
  | izyW b ho => exact .straight (lead := [_, _, _, _]) (by simp) (last_writeEndRow _ ho)
  | izyM b hf => exact tail (lead := [_, _, _, _]) hf (by simp)
  | absUnstable w hp => exact .straight (lead := [_, _, _]) (by simp) (last_unstableRow _ _ hp)
  | izyUnstable b hp => exact .straight (lead := [_, _, _, _]) (by simp) (last_unstableRow _ _ hp)
  | rel b cond => exact .rel b cond
  | jmpAbs w => exact .straight (lead := [_]) (by simp) (last_read fun _ _ => ⟨rfl, rfl, rfl⟩)
  | jmpInd w => exact .straight (lead := [_, _, _]) (by simp) (last_read fun _ _ => ⟨rfl, rfl, rfl⟩)
  | jsr b _ => exact .straight (lead := [_, _, _, _]) (by simp) (last_read fun _ _ => ⟨rfl, rfl, rfl⟩)
  | rts _ =>
    refine .straight (lead := [_, _, _, _]) ?_ (last_read fun _ _ => ⟨rfl, rfl, rfl⟩)
    simp only [List.forall_mem_cons, inner_dummyRow_id, inner_popDummyRow, true_and]
    exact ⟨inner_read fun _ _ => ⟨rfl, rfl, rfl⟩, inner_read fun _ _ => ⟨rfl, rfl, rfl⟩, List.forall_mem_nil _⟩
  | rti _ _ =>
    refine .straight (lead := [_, _, _, _]) ?_ (last_read fun _ _ => ⟨rfl, rfl, rfl⟩)
    simp only [List.forall_mem_cons, inner_dummyRow_id, inner_popDummyRow, true_and]
    exact ⟨inner_read fun _ _ => ⟨rfl, rfl, rfl⟩, inner_read fun _ _ => ⟨rfl, rfl, rfl⟩, List.forall_mem_nil _⟩
  | brk _ _ =>
    refine shape_entryRows true 0xFFFE#16 (lead := [_]) ?_
    rw [List.forall_mem_singleton]
    exact inner_read fun _ _ => ⟨rfl, rfl, rfl⟩
  | push v _ => exact .straight (lead := [_]) (by simp) (last_write fun _ => ⟨rfl, rfl, rfl⟩)
  | pull _ hf => exact .straight (lead := [_, _]) (by simp) (last_readEndRow _ hf)
  | jam => exact .jam

theorem shape_microcode (cfg : Config) (op : Byte) : ∃ T, Shape T (microcode cfg op) :=
  have ⟨T, _, h⟩ := exists_template_microcode cfg op
  ⟨T, h.shape⟩

theorem Shape.regular {T : Timing} {rows : List Row} (h : Shape T rows) : ∀ r ∈ rows, r.Regular := by
  cases h with
  | straight hi hl => simpa [or_imp, forall_and] using ⟨fun r hr => (hi r hr).regular, hl.regular⟩
  | cross m idx hi hf =>
    simpa [or_imp, forall_and] using
      ⟨fun r hr => (hi r hr).regular, regular_readCrossRow idx hf, (last_readEndRow _ hf).regular⟩
  | rel b cond =>
    simp only [tRel, List.forall_mem_cons, dummyRow]
    refine ⟨?_, ?_, ?_, List.forall_mem_nil _⟩
    · rintro c _ ⟨v, rfl⟩
      dsimp only
      split
      · exact ⟨rfl, .inl ⟨.inl rfl, rfl⟩⟩
      · exact ⟨rfl, .inl ⟨.inr rfl, rfl⟩⟩
    · rintro c _ ⟨v, rfl⟩
      dsimp only
      split
      · exact ⟨rfl, .inl ⟨.inr rfl, rfl⟩⟩
      · exact ⟨rfl, .inl ⟨.inl rfl, rfl⟩⟩
    · rintro c _ ⟨v, rfl⟩
      exact ⟨rfl, .inl ⟨.inr rfl, rfl⟩⟩
  | jam =>
    rw [tJam, List.forall_mem_singleton, dummyRow]
    rintro c _ ⟨v, rfl⟩
    exact ⟨rfl, .inr ⟨rfl, rfl⟩⟩

/-- The last row of a template leaves the CPU at a boundary. -/
theorem Shape.ends {T : Timing} {rows : List Row} (h : Shape T rows) : ∃ lead last, rows = lead ++ [last] ∧
    ∀ c c', last.Result c c' → c'.mip = .fetch ∨ c'.mip = .jammed := by
  cases h with
  | @straight lead last hi hl => exact ⟨lead, last, rfl, fun c c' hr => .inl (hl c c' hr).2.1⟩
  | @cross m lead idx f hi hf =>
    exact ⟨lead ++ [readCrossRow idx f], readEndRow Cpu.absAddr f, by simp,
      fun c c' hr => .inl (last_readEndRow _ hf c c' hr).2.1⟩
  | rel b cond =>
    refine ⟨(tRel cond).take 2, _, rfl, ?_⟩
    rintro c _ ⟨v, rfl⟩
    exact .inl rfl
  | jam =>
    refine ⟨[], _, rfl, ?_⟩
    rintro c _ ⟨v, rfl⟩
    exact .inr rfl

end Sys2Proof.Machine
end

section
/-! The invariants of a step, packaged once: what the devices, the bus accesses, the end of a cycle and a reset keep, every
step keeps, since a row changes the CPU and not its IRQ line (40_datapath_cycles.md R140, R147; 10_state.md R29). -/

namespace Sys2Proof.Machine

/-! ## A row and its CPU -/

/-- Of the lines the row writes at most the NMI detector: the fetch of an NMI consumes its edge. -/
def Row.KeepsLines (r : Row) : Prop :=
  ∀ c c', r.Result c c' → c'.lines = { c.lines with nmiEdge := c'.lines.nmiEdge }

theorem Row.KeepsLines.irq {r : Row} (h : r.KeepsLines) {c c' : Cpu} (hr : r.Result c c') :
    c'.lines.irqLine = c.lines.irqLine ∧ c'.lines.irqLevel = c.lines.irqLevel :=
  ⟨(congrArg Lines.irqLine (h c c' hr)).trans rfl, (congrArg Lines.irqLevel (h c c' hr)).trans rfl⟩

theorem Row.KeepsLines.cycle {r : Row} (h : r.KeepsLines) {c c' : Cpu} (hr : r.Result c c') :
    c'.lines.cycle = c.lines.cycle := (congrArg Lines.cycle (h c c' hr)).trans rfl

theorem Row.Regular.keepsLines {r : Row} (h : r.Regular) : r.KeepsLines := fun c c' hr => by
  rw [(h c c' hr).1]

theorem keepsLines_fetchRow : fetchRow.KeepsLines := by rintro c _ ⟨v, rfl⟩; rfl

theorem keepsLines_intFetchRow (k : IntKind) : (intFetchRow k).KeepsLines := by
  rintro c _ ⟨v, rfl⟩; cases k <;> rfl

/-- Any row that `mip` can name does so. -/
theorem keepsLines_of_currentRow {cfg : Config} {c : Cpu} {r : Row} (h : c.currentRow cfg = some r) : r.KeepsLines := by
  unfold Cpu.currentRow at h
  split at h
  · cases h
    split
    · exact keepsLines_intFetchRow _
    · split
      · exact keepsLines_intFetchRow _
      · exact keepsLines_fetchRow
  · split at h
    · cases h
    · exact ((shape_microcode cfg _).choose_spec.regular r (List.mem_of_getElem? h)).keepsLines
  · split at h
    · cases h
    · exact ((shape_intRows _).regular r (List.mem_of_getElem? h)).keepsLines
  · cases h

/-- After a row the CPU is what the row's effect makes of it, with the lines' housekeeping. -/
theorem State.runRow_cpu (r : Row) (ov : Option Byte) (s : State) : ∃ c c', r.Result c c' ∧
    c.mip = s.cpu.mip.next ∧ c.jamFlag = s.cpu.jamFlag ∧
    (s.runRow r ov).cpu.mip = c'.mip ∧ (s.runRow r ov).cpu.jamFlag = c'.jamFlag := by
  cases r with
  | read addr k => exact ⟨s.readSlot.cpu.nextRow, _, ⟨s.rowByte addr ov, rfl⟩, by simp, by simp, by simp, by simp⟩
  | write addr val k => exact ⟨s.devices.cpu.nextRow, _, rfl, by simp, by simp, by simp, by simp⟩

/-! ## Keeping an invariant through rows and steps -/

/-- `P` is kept by everything a clock cycle and a reset are made of; of the CPU it sees the IRQ line only. -/
structure Preserved (P : State → Prop) : Prop where
  devices : ∀ s, P s → P s.devices
  finish : ∀ s, P s → P s.finish
  busRead : ∀ a s, P s → P (s.busRead a).2
  busWrite : ∀ a v s, P s → P (s.busWrite a v)
  cpu : ∀ s (c : Cpu), c.lines.irqLine = s.cpu.lines.irqLine → c.lines.irqLevel = s.cpu.lines.irqLevel → P s →
    P { s with cpu := c }
  reset : ∀ k s, P s → P (s.doReset k)

section
variable {P : State → Prop} (h : Preserved P)
include h

theorem Preserved.readLoop (n : Nat) (s : State) (hs : P s) : P (s.readLoop n) := by
  induction n generalizing s with
  | zero => exact h.devices s hs
  | succ n ih =>
    unfold State.readLoop
    split
    · exact h.devices s hs
    · exact ih _ (h.finish _ (h.cpu _ _ rfl rfl (h.devices s hs)))

theorem Preserved.performRead {addr : Cpu → Word} {k : Byte → Cpu → Cpu} (hr : (Row.read addr k).KeepsLines)
    (ov : Option Byte) {s : State} (hs : P s) : P (s.performRead addr k ov) := by
  obtain ⟨line, level⟩ := hr.irq (c := (s.busRead (addr s.cpu)).2.cpu.nextRow) ⟨ov.getD (s.busRead (addr s.cpu)).1, rfl⟩
  exact h.cpu _ _ line level (h.busRead _ _ hs)

theorem Preserved.performWrite {addr : Cpu → Word} {val : Cpu → Byte} {k : Cpu → Cpu}
    (hr : (Row.write addr val k).KeepsLines) {s : State} (hs : P s) : P (s.performWrite addr val k) := by
  obtain ⟨line, level⟩ := hr.irq (c := (s.busWrite (addr s.cpu) (val s.cpu)).cpu.nextRow) rfl
  exact h.cpu _ _ line level (h.busWrite _ _ _ hs)

theorem Preserved.runRow {r : Row} (hr : r.KeepsLines) (ov : Option Byte) {s : State} (hs : P s) : P (s.runRow r ov) := by
  cases r with
  | read addr k => exact h.finish _ (h.performRead hr ov (h.readLoop 66 s hs))
  | write addr val k => exact h.finish _ (h.performWrite hr (h.devices s hs))

theorem Preserved.runRows {rows : List Row} (hr : ∀ r ∈ rows, r.KeepsLines) (bs : List Byte) {s : State} (hs : P s) :
    P (s.runRows bs rows) := by
  induction rows generalizing bs s with
  | nil => exact hs
  | cons r rs ih =>
    obtain ⟨h1, h2⟩ := List.forall_mem_cons.1 hr
    rw [State.runRows_cons]
    split
    · exact h.runRow h1 _ hs
    · exact ih h2 _ (h.runRow h1 _ hs)

theorem Preserved.finishInstr (n : Nat) {s t : State} (hs : P s) (ht : s.finishInstr n = some t) : P t := by
  induction n generalizing s with
  | zero =>
    unfold State.finishInstr at ht
    split at ht <;> cases ht
    exact hs
  | succ n ih =>
    unfold State.finishInstr at ht
    split at ht
    · cases ht; exact hs
    · split at ht
      · cases ht
      · rename_i r hr
        exact ih (h.runRow (keepsLines_of_currentRow hr) _ hs) ht

theorem Preserved.interrupt (k : IntKind) {s : State} (hs : P s) : P (s.interrupt k) :=
  h.runRows (List.forall_mem_cons.2
    ⟨keepsLines_intFetchRow k, fun r hr => ((shape_intRows k).regular r hr).keepsLines⟩) _ hs

theorem Preserved.exec {i : Instr} {s t : State} (hs : P s) (ht : exec i s = .next t) : P t := by
  rw [exec_eq] at ht
  cases ht
  exact h.runRows (List.forall_mem_cons.2
    ⟨keepsLines_fetchRow, fun r hr => ((shape_microcode _ _).choose_spec.regular r hr).keepsLines⟩) _ hs

end

/-! ## The outcomes of a step -/

/-- The decoder is given three bytes, which always hold an instruction (30_encoding.md R118). -/
theorem State.exists_decode_fetchBytes (s : State) : ∃ i rest, decode s.fetchBytes = .ok (i, rest) :=
  have ⟨rest, h, _⟩ := decode_three _ _ _
  ⟨_, rest, h⟩

/-- A step at a fetch is an interrupt sequence or an instruction. -/
theorem stepBoundary_cases (s : State) : (∃ k, s.stepBoundary = .next (s.interrupt k)) ∨ ∃ i, s.stepBoundary = exec i s := by
  unfold State.stepBoundary
  split
  · exact .inl ⟨_, rfl⟩
  · split
    · exact .inl ⟨_, rfl⟩
    · obtain ⟨i, rest, hd⟩ := s.exists_decode_fetchBytes
      exact .inr ⟨i, by simp [State.stepFetched, hd]⟩

theorem State.finishInstr_of_stepInside {s t : State} (h : s.stepInside = .next t) : s.finishInstr 8 = some t := by
  unfold State.stepInside at h
  split at h <;> cases h
  assumption

/-- What a step that answers a next state has done. -/
theorem step_cases {s t : State} (h : step s = .next t) :
    (∃ k, t = s.doReset k) ∨ s.cpu.mip = .fetch ∧ ((∃ k, t = s.interrupt k) ∨ ∃ i, exec i s = .next t) ∨
      s.cpu.atBoundary = false ∧ s.finishInstr 8 = some t := by
  unfold step at h
  split at h
  · cases h; exact .inl ⟨_, rfl⟩
  · split at h
    · cases h
    · rename_i hm
      refine .inr (.inl ⟨hm, ?_⟩)
      rcases stepBoundary_cases s with ⟨k, hk⟩ | ⟨i, hi⟩
      · rw [hk] at h; cases h; exact .inl ⟨k, rfl⟩
      · exact .inr ⟨i, hi ▸ h⟩
    · rename_i hm; exact .inr (.inr ⟨by simp [hm], State.finishInstr_of_stepInside h⟩)
    · rename_i hm; exact .inr (.inr ⟨by simp [hm], State.finishInstr_of_stepInside h⟩)

theorem Preserved.step {P : State → Prop} (h : Preserved P) {s t : State} (hs : P s) (ht : step s = .next t) : P t := by
  rcases step_cases ht with ⟨k, rfl⟩ | ⟨_, ⟨k, rfl⟩ | ⟨i, hi⟩⟩ | ⟨_, hf⟩
  · exact h.reset k s hs
  · exact h.interrupt k hs
  · exact h.exec hs hi
  · exact h.finishInstr 8 hs hf

end Sys2Proof.Machine
end

section
/-! RAM, colour RAM and the CPU at the end of a step (10_state.md R39, R29; 40_datapath_cycles.md R147; 60_exceptions.md
R400, R402). -/

namespace Sys2Proof.Machine

/-! ## Memories -/

theorem Memory.good_write {n k : Nat} {m : Memory} (h : m.good n) (hk : k < n) (v : Byte) : (m.write k v).good n :=
  ⟨m.wf_write k v h.1, m.below_write n k v h.2 hk⟩

theorem nibble_toNat_lt (v : Byte) : (v &&& 0x0F#8).toNat < 16 := by
  rw [and0F_toNat]; exact Nat.mod_lt _ (by decide)

/-- The invariant speaks of RAM and colour RAM alone. -/
theorem State.MemoriesInv.of_eq {s t : State} (h : s.MemoriesInv) (hr : t.ram = s.ram) (hc : t.colorRam = s.colorRam) :
    t.MemoriesInv := ⟨hr ▸ h.ram, hc ▸ h.colorRam, hc ▸ h.nibbles⟩

theorem State.MemoriesInv.busWrite {s : State} (h : s.MemoriesInv) (a : Word) (v : Byte) :
    (s.busWrite a v).MemoriesInv := by
  refine ⟨?_, ?_, ?_⟩
  · rw [State.busWrite_ram]
    split
    · exact Memory.good_write h.ram a.isLt v
    · exact h.ram
  · rw [State.busWrite_colorRam]
    split
    · exact Memory.good_write h.colorRam (Nat.mod_lt _ (by decide)) _
    · exact h.colorRam
  · intro k
    rw [State.busWrite_colorRam]
    split
    · rw [Memory.read_write]
      split
      · exact nibble_toNat_lt v
      · exact h.nibbles k
    · exact h.nibbles k

theorem preserved_memoriesInv : Preserved State.MemoriesInv where
  devices s h := h.of_eq s.devices_ram s.devices_colorRam
  finish s h := h.of_eq s.finish_ram s.finish_colorRam
  busRead a s h := h.of_eq (s.busRead_ram a) (s.busRead_colorRam a)
  busWrite a v _ h := h.busWrite a v
  cpu _ _ _ _ h := h.of_eq rfl rfl
  reset _ _ h := h.of_eq rfl rfl

/-! ## The IRQ detector -/

/-- The IRQ detector follows the line (R29). -/
def Lines.IrqOk (l : Lines) : Prop := l.irqLevel.cur = decide (l.irqLine ≠ 0#8)

theorem Lines.IrqOk.of_eq {l m : Lines} (h : l.IrqOk) (h1 : m.irqLine = l.irqLine) (h2 : m.irqLevel.cur = l.irqLevel.cur) :
    m.IrqOk := by rw [Lines.IrqOk, h1, h2]; exact h

theorem or_bit_ne_zero (m : Byte) (src : Source) : m ||| src.bit ≠ 0#8 := by
  rw [Ne, BitVec.or_eq_zero_iff]
  cases src <;> exact fun h => absurd h.2 (by decide)

theorem Lines.IrqOk.driveIrq (src : Source) (on : Bool) (l : Lines) : (l.driveIrq src on).IrqOk := by
  cases on with
  | true => exact (decide_eq_true (or_bit_ne_zero _ _)).symm
  | false => simp [Lines.IrqOk, Lines.driveIrq, Lines.releaseIrq, bne, beq_eq_decide]

theorem Lines.IrqOk.driveNmi {l : Lines} (h : l.IrqOk) (src : Source) (on : Bool) : (l.driveNmi src on).IrqOk :=
  h.of_eq (l.driveNmi_irqLine src on) (by rw [l.driveNmi_irqLevel])

theorem Lines.IrqOk.housekeep {l : Lines} (h : l.IrqOk) : l.housekeep.IrqOk := h.of_eq rfl rfl

/-- CIA1 is the last to drive the IRQ line in a cycle. -/
theorem State.devices_irqOk (s : State) : s.devices.cpu.lines.IrqOk := by
  have h : s.syncPins.vicCycle.cia1Cycle.cpu.lines.IrqOk := Lines.IrqOk.driveIrq _ _ _
  exact h.driveNmi _ _

theorem preserved_irqOk : Preserved fun s => s.cpu.lines.IrqOk where
  devices s _ := s.devices_irqOk
  finish s h := by rw [State.finish_lines]; exact h.housekeep
  busRead a s h := by rw [State.busRead_cpu]; exact h
  busWrite a v s h := by rw [State.busWrite_cpu]; exact h
  cpu s c h1 h2 h := h.of_eq h1 (by rw [h2])
  reset k s _ := by cases k <;> exact (rfl : false = decide ((0#8 : Byte) ≠ 0#8))

/-! ## The boundary and the jam -/

/-- At a boundary, jammed exactly when the jam flag is up. -/
def Cpu.Settled (c : Cpu) : Prop := c.atBoundary = true ∧ (c.mip = .jammed ↔ c.jamFlag = true)

theorem Cpu.settled_iff (c : Cpu) :
    c.Settled ↔ (c.mip = .fetch ∧ c.jamFlag = false) ∨ (c.mip = .jammed ∧ c.jamFlag = true) := by
  cases hm : c.mip <;> cases hj : c.jamFlag <;> simp [Cpu.Settled, hm, hj]

theorem Mip.next_ne_jammed {m : Mip} (h : m ≠ .jammed) : m.next ≠ .jammed := by
  cases m <;> simp_all [Mip.next]

/-- After a row of a running instruction the CPU is running still, at the next fetch, or jammed with its flag up. -/
theorem State.runRow_regular {r : Row} (hr : r.Regular) (ov : Option Byte) {s : State} (hm : s.cpu.mip ≠ .jammed)
    (hj : s.cpu.jamFlag = false) : (s.runRow r ov).cpu.Settled ∨
      (s.runRow r ov).cpu.mip ≠ .jammed ∧ (s.runRow r ov).cpu.jamFlag = false := by
  obtain ⟨c, c', hres, h1, h2, h3, h4⟩ := s.runRow_cpu r ov
  rw [Cpu.settled_iff, h3, h4]
  rcases (hr c c' hres).2 with ⟨hm' | hm', hj'⟩ | ⟨hm', hj'⟩
  · exact .inr ⟨by rw [hm', h1]; exact Mip.next_ne_jammed hm, by rw [hj', h2, hj]⟩
  · exact .inl (.inl ⟨hm', by rw [hj', h2, hj]⟩)
  · exact .inl (.inr ⟨hm', hj'⟩)

/-- The rows of a template end at a boundary. -/
theorem State.runRows_settled {rows : List Row} (hr : ∀ r ∈ rows, r.Regular)
    (he : ∃ lead last, rows = lead ++ [last] ∧ ∀ c c', last.Result c c' → c'.mip = .fetch ∨ c'.mip = .jammed)
    (bs : List Byte) {s : State} (hm : s.cpu.mip ≠ .jammed) (hj : s.cpu.jamFlag = false) :
    (s.runRows bs rows).cpu.Settled := by
  obtain ⟨lead, last, rfl, hlast⟩ := he
  induction lead generalizing bs s with
  | nil =>
    rw [List.nil_append, State.runRows_one]
    rcases State.runRow_regular (hr last (by simp)) bs.head? hm hj with h | ⟨h1, h2⟩
    · exact h
    · obtain ⟨c, c', hres, -, -, h3, -⟩ := s.runRow_cpu last bs.head?
      rcases hlast c c' hres with h | h
      · exact (Cpu.settled_iff _).2 (.inl ⟨h3.trans h, h2⟩)
      · exact absurd (h3.trans h) h1
  | cons r lead ih =>
    obtain ⟨h1, h2⟩ := List.forall_mem_cons.1 hr
    rw [List.cons_append, State.runRows_cons]
    rcases State.runRow_regular h1 bs.head? hm hj with h | ⟨h3, h4⟩
    · rw [if_pos h.1]; exact h
    · split
      · rename_i hb
        refine (Cpu.settled_iff _).2 (.inl ⟨?_, h4⟩)
        cases hmip : (s.runRow r bs.head?).cpu.mip <;> simp_all
      · exact ih _ h3 h4 h2

theorem Shape.settles {rows : List Row} {T : Timing} (h : Shape T rows) (bs : List Byte) {s : State} (hm : s.cpu.mip ≠ .jammed)
    (hj : s.cpu.jamFlag = false) : (s.runRows bs rows).cpu.Settled :=
  State.runRows_settled h.regular h.ends bs hm hj

theorem State.runInstr_settled {rows : List Row} {T : Timing} (h : Shape T rows) (op : Byte) (bs : List Byte) {s : State}
    (hj : s.cpu.jamFlag = false) : (s.runInstr (op :: bs) rows).cpu.Settled := by
  have hm : (s.runRow fetchRow (some op)).cpu.mip = .exec op 2 := by simp [fetchRow, State.rowByte_some]
  rw [State.runInstr, State.runRows_cons, if_neg (by simp [hm])]
  exact h.settles bs (by simp [hm]) (by simpa [fetchRow] using hj)

theorem State.interrupt_settled (k : IntKind) {s : State} (hj : s.cpu.jamFlag = false) : (s.interrupt k).cpu.Settled := by
  have hm : (s.runRow (intFetchRow k) none).cpu.mip = .int k 2 := by cases k <;> simp [intFetchRow, dummyRow]
  rw [State.interrupt, State.runRows_cons, List.head?_nil, if_neg (by simp [hm])]
  exact (shape_intRows k).settles _ (by simp [hm]) (by cases k <;> simpa [intFetchRow, dummyRow] using hj)

/-- Every instruction delivers its opcode byte first. -/
theorem exists_delivered (i : Instr) : ∃ bs, delivered i = i.opcode :: bs := by
  obtain ⟨b, w, h⟩ := exists_instr_opcodeForm i
  have he := encode_instr_opcodeForm i.opcode b w
  rw [h] at he
  unfold delivered
  rw [he]
  cases opcodeForm i.opcode <;> split <;> exact ⟨_, rfl⟩

theorem State.exec_settled {i : Instr} {s t : State} (hj : s.cpu.jamFlag = false) (h : exec i s = .next t) :
    t.cpu.Settled := by
  obtain ⟨bs, hb⟩ := exists_delivered i
  rw [exec_eq, hb] at h
  cases h
  exact State.runInstr_settled (shape_microcode _ _).choose_spec _ _ hj

theorem State.doReset_settled (k : ResetKind) (s : State) : (s.doReset k).cpu.Settled :=
  (Cpu.settled_iff _).2 (.inl (by cases k <;> exact ⟨rfl, rfl⟩))

theorem State.step_settled {s t : State} (h : s.cpu.Settled) (ht : step s = .next t) : t.cpu.Settled := by
  rcases step_cases ht with ⟨k, rfl⟩ | ⟨hm, hn⟩ | ⟨hb, -⟩
  · exact s.doReset_settled k
  · have hj : s.cpu.jamFlag = false := by
      rw [← Bool.not_eq_true, ← h.2, hm]; exact nofun
    rcases hn with ⟨k, rfl⟩ | ⟨i, hi⟩
    · exact State.interrupt_settled k hj
    · exact State.exec_settled hj hi
  · exact absurd h.1 (ne_true_of_eq_false hb)

end Sys2Proof.Machine

namespace Sys2Proof

open Machine

/-- Settles O14: only a bus write changes RAM or colour RAM, and it writes inside them. -/
theorem stepKeepsMemories : Obligations.StepKeepsMemories := fun _ _ h ht => preserved_memoriesInv.step h ht

/-- Settles O17: the line is driven by operations that keep the detector, and every template ends at a boundary. -/
theorem stepKeepsCpu : Obligations.StepKeepsCpu := by
  intro s t h ht
  obtain ⟨hb, hj⟩ := State.step_settled ⟨h.boundary, h.jam⟩ ht
  exact ⟨preserved_irqOk.step h.irqLevel ht, hb, hj⟩

/-- Settles O12: at a boundary the CPU fetches or is jammed, and every instruction answers a next state. -/
theorem onlyJamStops : Obligations.OnlyJamStops := by
  refine fun s h => ⟨fun hr hj => ?_, fun hn => ?_⟩
  · simp [step, hr, h.jam.2 hj]
  · cases hr : s.inputs.resetReq with
    | some k => exact ⟨_, by simp only [step, hr]; rfl⟩
    | none =>
      have hj : s.cpu.jamFlag = false := hn.resolve_left (· hr)
      have hm : s.cpu.mip = .fetch := by
        rcases (Cpu.settled_iff _).1 ⟨h.boundary, h.jam⟩ with hm | hm
        · exact hm.1
        · exact absurd hm.2 (by simp [hj])
      have hs : step s = s.stepBoundary := by simp only [step, hr, hm]
      rcases stepBoundary_cases s with ⟨k, hk⟩ | ⟨i, hi⟩
      · exact ⟨_, hs.trans hk⟩
      · exact ⟨_, hs.trans (hi.trans (exec_eq i s))⟩

end Sys2Proof
end

section
/-! The VIC-II's raster position, memories, copies and sprites (60_exceptions.md R470, R473; 10_state.md R42): only the
advance moves the position, only a c-access writes the row buffers, only a copy or a register access writes the registers. -/

namespace Sys2Proof.Machine

/-! ## The part of the VIC-II that the invariant speaks of -/

/-- Raster position, registers, copies under way, row buffers, and the number of sprites. -/
def Vic.frame (v : Vic) : Nat × Nat × Memory × Memory × List VicCopy × Memory × Memory × Nat :=
  (v.line, v.cycle, v.cur, v.del, v.copies, v.matrix, v.colors, v.sprites.length)

/-- The invariant of the VIC-II, for a model. -/
structure Vic.Ok (m : VicModel) (v : Vic) : Prop where
  current : v.cur.good 47
  delayed : v.del.good 47
  copies : ∀ c ∈ v.copies, c.reg < 47
  matrix : v.matrix.good 64
  colors : v.colors.good 64
  line : v.line < m.linesPerFrame
  cycle : 1 ≤ v.cycle ∧ v.cycle ≤ m.cyclesPerLine
  sprites : v.sprites.length = 8

theorem State.videoInv_iff (s : State) : s.VideoInv ↔ s.vic.Ok s.cfg.vicModel :=
  ⟨fun ⟨h1, h2, h3, h4, h5, h6, h7, h8⟩ => ⟨h1, h2, h3, h4, h5, h6, h7, h8⟩,
    fun ⟨h1, h2, h3, h4, h5, h6, h7, h8⟩ => ⟨h1, h2, h3, h4, h5, h6, h7, h8⟩⟩

theorem Vic.Ok.of_frame {m : VicModel} {v w : Vic} (h : v.Ok m) (e : w.frame = v.frame) : w.Ok m := by
  simp only [Vic.frame, Prod.mk.injEq] at e
  obtain ⟨e1, e2, e3, e4, e5, e6, e7, e8⟩ := e
  exact ⟨e3 ▸ h.current, e4 ▸ h.delayed, e5 ▸ h.copies, e6 ▸ h.matrix, e7 ▸ h.colors, e1 ▸ h.line, e2 ▸ h.cycle,
    e8 ▸ h.sprites⟩

/-! ## What each phase of a cycle leaves of it -/

@[simp] theorem Vic.irqPhase_frame (v : Vic) : v.irqPhase.frame = v.frame := rfl
@[simp] theorem Vic.badLinePhase_frame (v : Vic) : v.badLinePhase.frame = v.frame := rfl
@[simp] theorem Vic.shiftPipe_frame (v : Vic) : v.shiftPipe.frame = v.frame := rfl
@[simp] theorem Vic.collisionPhase_frame (i : VicInputs) (v : Vic) : (v.collisionPhase i).frame = v.frame := rfl
@[simp] theorem Vic.acknowledge_frame (x : Byte) (v : Vic) : (v.acknowledge x).frame = v.frame := rfl

@[simp] theorem Vic.spritePhase_frame (m : VicModel) (i : VicInputs) (v : Vic) : (v.spritePhase m i).frame = v.frame := by
  simp [Vic.frame, Vic.spritePhase]

@[simp] theorem Vic.spriteEnd_frame (m : VicModel) (v : Vic) : (v.spriteEnd m).frame = v.frame := by
  simp [Vic.frame, Vic.spriteEnd]

@[simp] theorem Vic.frameStart_frame (v : Vic) : v.frameStart.frame = v.frame := by
  unfold Vic.frameStart; split <;> rfl

@[simp] theorem Vic.rasterPhase_frame (v : Vic) : v.rasterPhase.frame = v.frame := by
  unfold Vic.rasterPhase; repeat' split
  all_goals rfl

@[simp] theorem Vic.rowStart_frame (v : Vic) : v.rowStart.frame = v.frame := by
  unfold Vic.rowStart; split <;> rfl

@[simp] theorem Vic.afterG_frame (v : Vic) : v.afterG.frame = v.frame := by
  unfold Vic.afterG; split <;> rfl

@[simp] theorem Vic.gAccess_frame (i : VicInputs) (v : Vic) : (v.gAccess i).frame = v.frame := v.afterG_frame

@[simp] theorem Vic.rowEnd_frame (v : Vic) : v.rowEnd.frame = v.frame := by
  simp only [Vic.rowEnd]; repeat' split
  all_goals rfl

@[simp] theorem Vic.borderPhase_frame (m : VicModel) (v : Vic) : (v.borderPhase m).frame = v.frame := by
  simp only [Vic.borderPhase]; repeat' split
  all_goals rfl

@[simp] theorem Vic.lightPenPhase_frame (i : VicInputs) (v : Vic) : (v.lightPenPhase i).frame = v.frame := by
  unfold Vic.lightPenPhase; split <;> rfl

@[simp] theorem Vic.noteIrq_frame (stage : Nat) (v : Vic) : (v.noteIrq stage).frame = v.frame := by
  unfold Vic.noteIrq; repeat' split
  all_goals rfl

theorem Vic.conditions_frame (v : Vic) : v.conditions.frame = v.frame := by simp [Vic.conditions]

theorem Vic.read_frame (r : Nat) (v : Vic) : (v.read r).2.frame = v.frame := by
  have choice {c : Prop} [Decidable c] {x y : Byte × Vic} (hx : x.2.frame = v.frame) (hy : y.2.frame = v.frame) :
      (if c then x else y).2.frame = v.frame := by split <;> assumption
  unfold Vic.read
  repeat' apply choice
  all_goals rfl

/-! ## The cycle -/

/-- A c-access writes the row buffers at `vmli`, which has six bits. -/
theorem Vic.Ok.cAccess {m : VicModel} {v : Vic} (h : v.Ok m) (i : VicInputs) : (v.cAccess i).Ok m := by
  unfold Vic.cAccess
  split
  · exact { h with matrix := Memory.good_write h.matrix v.vmli.isLt _, colors := Memory.good_write h.colors v.vmli.isLt _ }
  · exact h

theorem good_foldl_copies {n : Nat} (cur : Memory) {cs : List VicCopy} (hc : ∀ c ∈ cs, c.reg < n) {del : Memory}
    (h : del.good n) : Memory.good n (cs.foldl (VicCopy.run cur) del) := by
  induction cs generalizing del with
  | nil => exact h
  | cons c cs ih =>
    obtain ⟨h1, h2⟩ := List.forall_mem_cons.1 hc
    refine ih h2 ?_
    unfold VicCopy.run
    split
    · exact Memory.good_write h h1 _
    · exact h

theorem Vic.Ok.copyPhase {m : VicModel} {v : Vic} (h : v.Ok m) : v.copyPhase.Ok m where
  __ := h
  delayed := good_foldl_copies v.cur h.copies h.delayed
  copies _ hc :=
    have ⟨d, hd, hr, _⟩ := Vic.mem_copyPhase hc
    hr ▸ h.copies d hd

theorem Vic.beforeCollisions_ok {m : VicModel} {v : Vic} (h : v.Ok m) (i : VicInputs) : (v.beforeCollisions m i).Ok m := by
  have hg : (v.conditions.gAccess i).Ok m := h.of_frame (by rw [Vic.gAccess_frame, Vic.conditions_frame])
  exact (hg.cAccess i).of_frame (by simp [Vic.beforeCollisions, Vic.rowPhase])

theorem Vic.Ok.step {m : VicModel} {v : Vic} (h : v.Ok m) (i : VicInputs) : (v.step m i).Ok m := by
  have hb := (Vic.beforeCollisions_ok h i).of_frame (Vic.collisionPhase_frame i _)
  rw [Vic.step_eq, Vic.afterCollisions]
  generalize (v.beforeCollisions m i).collisionPhase i = w at hb
  have hs : (Vic.spriteEnd m { w with ba := w.rdyNow m }).Ok m := hb.of_frame (Vic.spriteEnd_frame m _)
  exact hs.copyPhase.of_frame (by simp)

theorem cyclesPerLine_pos (m : VicModel) : 1 ≤ m.cyclesPerLine := by cases m <;> decide
theorem linesPerFrame_pos (m : VicModel) : 0 < m.linesPerFrame := by cases m <;> decide

/-- The advance stays on the screen (R470). -/
theorem Vic.Ok.advance {m : VicModel} {v : Vic} (h : v.Ok m) : (v.advance m).Ok m := by
  unfold Vic.advance
  split
  · exact { h with cycle := ⟨by simp, by assumption⟩ }
  · refine { h with cycle := ⟨le_rfl, cyclesPerLine_pos m⟩, line := ?_ }
    dsimp only
    split
    · assumption
    · exact linesPerFrame_pos m

/-! ## Register writes -/

theorem Vic.Ok.schedule {m : VicModel} {v : Vic} (h : v.Ok m) {r : Nat} (hr : r < 47) (d : Nat) :
    (v.schedule r d).Ok m where
  __ := h
  copies c hc := by
    rcases List.mem_append.1 hc with hc | hc
    · exact h.copies c hc
    · rw [List.mem_singleton.1 hc]; exact hr

theorem Vic.Ok.writeShadow {m : VicModel} {v : Vic} (h : v.Ok m) (cfg : Config) {r : Nat} (hr : r < 47) (x : Byte) :
    (v.writeShadow cfg r x).Ok m := by
  have hc : ({ v with cur := v.cur.write r x } : Vic).Ok m := { h with current := Memory.good_write h.current hr x }
  have hd (y : Byte) : ({ v with cur := v.cur.write r x, del := v.del.write r y } : Vic).Ok m :=
    { hc with delayed := Memory.good_write h.delayed hr y }
  unfold Vic.writeShadow
  dsimp only
  split
  · exact (hd _).schedule hr 1
  · split
    · exact hd x
    · exact hc.schedule hr _

theorem Vic.Ok.write {m : VicModel} {v : Vic} (h : v.Ok m) (cfg : Config) (r : Nat) (x : Byte) : (v.write cfg r x).Ok m := by
  unfold Vic.write
  split
  · exact h
  · have hr : r < 47 := by omega
    split
    · exact h
    · split
      · exact h.of_frame (by simp)
      · split
        · exact (h.writeShadow cfg hr _).of_frame (Vic.noteIrq_frame 1 _)
        · split
          · exact h.writeShadow cfg hr _
          · exact h.writeShadow cfg hr _

/-! ## The VIC-II in the machine -/

/-- A bus read reaches the VIC-II by a register read or not at all. -/
theorem State.busRead_vic (a : Word) (s : State) :
    (s.busRead a).2.vic = s.vic ∨ ∃ r, (s.busRead a).2.vic = (s.vic.read r).2 := by
  have hc : s.cartAccess.vic = s.vic := by unfold State.cartAccess; split <;> rfl
  have hp (b : Byte) (u : State) : (u.portARead b).2.vic = u.vic := by unfold State.portARead; split <;> rfl
  have h1 (r : Nat) : (s.cia1Read r).2.vic = s.vic := by
    unfold State.cia1Read; split
    · exact hp _ _
    · rfl
  have h2 (r : Nat) : (s.cia2Read r).2.vic = s.vic := by
    unfold State.cia2Read; split
    · exact hp _ _
    · rfl
  have io : (s.ioRead a).2.vic = s.vic ∨ ∃ r, (s.ioRead a).2.vic = (s.vic.read r).2 := by
    unfold State.ioRead
    split
    · exact .inr ⟨_, rfl⟩
    · left
      split_ifs
      · rfl
      · rfl
      · exact h1 _
      · exact h2 _
      · exact hc
  unfold State.busRead
  split
  · exact .inl rfl
  · split
    case h_7 => exact io
    case h_5 => exact .inl hc
    case h_6 => exact .inl hc
    all_goals exact .inl rfl

/-- A bus write reaches the VIC-II by a register write or not at all. -/
theorem State.busWrite_vic (a : Word) (v : Byte) (s : State) :
    (s.busWrite a v).vic = s.vic ∨ ∃ r, (s.busWrite a v).vic = s.vic.write s.cfg r v := by
  have hc : s.cartAccess.vic = s.vic := by unfold State.cartAccess; split <;> rfl
  have io : (s.ioWrite a v).vic = s.vic ∨ ∃ r, (s.ioWrite a v).vic = s.vic.write s.cfg r v := by
    unfold State.ioWrite
    split
    · exact .inr ⟨_, rfl⟩
    · left
      split_ifs
      · rfl
      · rfl
      · rfl
      · rfl
      · exact hc
  unfold State.busWrite
  split
  · exact .inl rfl
  · split
    · exact .inl rfl
    · exact io
    · exact .inl rfl

/-- The VIC-II after the devices' part of a cycle has made its own cycle. -/
theorem State.devices_vic (s : State) :
    s.devices.vic = { s.vic.step s.cfg.vicModel (({ s.syncPins with draws := s.draws + 3 } : State).vicInputs s.draws) with
      bank := s.selectedBank } := rfl

theorem Vic.reset_ok (m : VicModel) : Vic.reset.Ok m where
  current := ⟨rfl, rfl⟩
  delayed := ⟨rfl, rfl⟩
  copies := List.forall_mem_nil _
  matrix := ⟨rfl, rfl⟩
  colors := ⟨rfl, rfl⟩
  line := linesPerFrame_pos m
  cycle := ⟨le_rfl, cyclesPerLine_pos m⟩
  sprites := rfl

theorem preserved_videoInv : Preserved State.VideoInv where
  devices s h := by
    rw [State.videoInv_iff] at h ⊢
    rw [State.devices_cfg, State.devices_vic]
    exact (h.step _).of_frame rfl
  finish s h := by
    rw [State.videoInv_iff] at h ⊢
    rw [State.finish_cfg, State.finish_vic]
    exact h.advance
  busRead a s h := by
    rw [State.videoInv_iff] at h ⊢
    rw [State.busRead_cfg]
    rcases s.busRead_vic a with hv | ⟨r, hv⟩
    · rw [hv]; exact h
    · rw [hv]; exact h.of_frame (Vic.read_frame r _)
  busWrite a v s h := by
    rw [State.videoInv_iff] at h ⊢
    rw [State.busWrite_cfg]
    rcases s.busWrite_vic a v with hv | ⟨r, hv⟩
    · rw [hv]; exact h
    · rw [hv]; exact h.write _ r v
  cpu s _ _ _ h := (State.videoInv_iff _).2 (s.videoInv_iff.1 h)
  reset _ s _ := (State.videoInv_iff _).2 (Vic.reset_ok s.cfg.vicModel)

end Sys2Proof.Machine

namespace Sys2Proof

open Machine

/-- Settles O15: each phase of the VIC-II's cycle, its register accesses and the raster's advance keep the invariant. -/
theorem stepKeepsVideo : Obligations.StepKeepsVideo := fun _ _ h ht => preserved_videoInv.step h ht

end Sys2Proof
end

section
/-! The drive's memories, disk, head and IRQ detector (60_exceptions.md R512 to R527; 10_state.md R43): only a bus write
changes a memory or moves the head to another halftrack, only a bit event moves it along the track or changes a bit. -/

namespace Sys2Proof.Machine

/-- The part of the drive that the invariant speaks of. -/
def Drive.frame (d : Drive) : Memory × Memory × Memory × List Track × Nat × Nat × Lines :=
  (d.ram, d.via1.regs, d.via2.regs, d.disk.tracks, d.halftrack, d.offset, d.cpu.lines)

/-- The invariant of the drive. -/
structure Drive.Ok (d : Drive) : Prop where
  ram : d.ram.good 2048
  via1 : d.via1.regs.good 16
  via2 : d.via2.regs.good 16
  tracks : d.disk.tracks.length = 84
  trackBits : ∀ t ∈ d.disk.tracks, t.bits.length = t.length ∧ t.length ≤ 7928 * 8
  halftrack : 1 ≤ d.halftrack ∧ d.halftrack ≤ 84
  offset : d.offset = 0 ∨ d.offset < d.track.length
  irq : d.cpu.lines.IrqOk

theorem State.driveInv_iff (s : State) : s.DriveInv ↔ s.drive.Ok :=
  ⟨fun ⟨h1, h2, h3, h4, h5, h6, h7, h8⟩ => ⟨h1, h2, h3, h4, h5, h6, h7, h8⟩,
    fun ⟨h1, h2, h3, h4, h5, h6, h7, h8⟩ => ⟨h1, h2, h3, h4, h5, h6, h7, h8⟩⟩

theorem Drive.Ok.of_frame {d e : Drive} (h : d.Ok) (hf : e.frame = d.frame) : e.Ok := by
  simp only [Drive.frame, Prod.mk.injEq] at hf
  obtain ⟨h1, h2, h3, h4, h5, h6, h7⟩ := hf
  have ht : e.track = d.track := by simp only [Drive.track, h4, h5]
  exact ⟨h1 ▸ h.ram, h2 ▸ h.via1, h3 ▸ h.via2, h4 ▸ h.tracks, h4 ▸ h.trackBits, h5 ▸ h.halftrack, h6 ▸ ht ▸ h.offset,
    h7 ▸ h.irq⟩

/-! ## The drive CPU's bus -/

@[simp] theorem Via.read_regs (a b free : Byte) (r : Nat) (v : Via) : (v.read a b free r).2.regs = v.regs := by
  unfold Via.read; split <;> rfl

@[simp] theorem Via.read1_regs (b free : Byte) (r : Nat) (v : Via) : (v.read1 b free r).2.regs = v.regs := by
  unfold Via.read1; split
  · rfl
  · exact Via.read_regs ..

theorem Via.write_regs_good {v : Via} (h : v.regs.good 16) {r : Nat} (hr : r < 16) (x : Byte) :
    (v.write r x).regs.good 16 := by
  unfold Via.write
  split
  · exact Memory.good_write h (by decide) x
  · exact h
  · exact Memory.good_write h (by decide) x
  · exact Memory.good_write h hr x

@[simp] theorem Drive.holdCount_frame (d : Drive) : d.holdCount.frame = d.frame := by
  unfold Drive.holdCount; split <;> rfl

/-- A read leaves the drive, but for a free byte drawn and a VIA's interrupt flag. -/
theorem Drive.busRead_cases (p : IecPulls) (a : Nat) (d : Drive) : (d.busRead p a).2 = d ∨
    ∃ v1 v2, v1.regs = d.via1.regs ∧ v2.regs = d.via2.regs ∧
      (d.busRead p a).2 = { d.takeDraw.2 with via1 := v1, via2 := v2 } := by
  unfold Drive.busRead
  split
  · exact .inl rfl
  · split
    · exact .inl rfl
    · right
      dsimp only
      split
      · exact ⟨_, d.via2, Via.read1_regs .., rfl, rfl⟩
      · split
        · exact ⟨d.via1, _, rfl, Via.read_regs .., rfl⟩
        · exact ⟨d.via1, d.via2, rfl, rfl, rfl⟩

theorem Drive.busRead_frame (p : IecPulls) (a : Nat) (d : Drive) : (d.busRead p a).2.frame = d.frame := by
  rcases d.busRead_cases p a with h | ⟨v1, v2, h1, h2, h⟩
  · rw [h]
  · rw [h]; simp [Drive.frame, Drive.takeDraw, h1, h2]

theorem Drive.busRead_cpu (p : IecPulls) (a : Nat) (d : Drive) : (d.busRead p a).2.cpu = d.cpu := by
  rcases d.busRead_cases p a with h | ⟨v1, v2, -, -, h⟩ <;> rw [h]
  rfl

theorem Drive.stepHead_halftrack_mem {d : Drive} (h : 1 ≤ d.halftrack ∧ d.halftrack ≤ 84) (old : BitVec 2) :
    1 ≤ (d.stepHead old).halftrack ∧ (d.stepHead old).halftrack ≤ 84 := by
  unfold Drive.stepHead
  dsimp only
  repeat' split
  all_goals omega

/-- The head's new offset is one of the new halftrack. -/
theorem Drive.stepHead_offset (old : BitVec 2) (d : Drive) :
    (d.stepHead old).offset = 0 ∨ (d.stepHead old).offset < (d.stepHead old).track.length := by
  by_cases ht : (d.stepHead old).track.length = 0
  · exact .inl (if_pos ht)
  · exact .inr ((if_neg ht).trans_lt (Nat.mod_lt _ (Nat.pos_of_ne_zero ht)))

theorem Drive.Ok.stepHead {d : Drive} (h : d.Ok) (old : BitVec 2) : (d.stepHead old).Ok :=
  ⟨h.ram, h.via1, h.via2, h.tracks, h.trackBits, Drive.stepHead_halftrack_mem h.halftrack old, d.stepHead_offset old, h.irq⟩

theorem Drive.Ok.withVia1 {d : Drive} (h : d.Ok) {v : Via} (hv : v.regs.good 16) : ({ d with via1 := v } : Drive).Ok :=
  { h with via1 := hv }

theorem Drive.Ok.withVia2 {d : Drive} (h : d.Ok) {v : Via} (hv : v.regs.good 16) : ({ d with via2 := v } : Drive).Ok :=
  { h with via2 := hv }

theorem Drive.Ok.busWrite {d : Drive} (h : d.Ok) (a : Nat) (x : Byte) : (d.busWrite a x).Ok := by
  unfold Drive.busWrite
  split
  · exact { h with ram := Memory.good_write h.ram (by omega) x }
  · split
    · rename_i ha
      simp only [Bool.and_eq_true, decide_eq_true_eq] at ha
      exact h.withVia1 (Via.write_regs_good h.via1 (r := a - 0x1800) (by omega) x)
    · split
      · rename_i ha
        simp only [Bool.and_eq_true, decide_eq_true_eq] at ha
        have hw := h.withVia2 (Via.write_regs_good h.via2 (r := a - 0x1C00) (by omega) x)
        exact (hw.stepHead _).of_frame (Drive.holdCount_frame _)
      · exact h

theorem Drive.busWrite_cpu (a : Nat) (x : Byte) (d : Drive) : (d.busWrite a x).cpu = d.cpu := by
  have hc (e : Drive) : e.holdCount.cpu = e.cpu := by unfold Drive.holdCount; split <;> rfl
  have hs (old : BitVec 2) (e : Drive) : (e.stepHead old).cpu = e.cpu := rfl
  unfold Drive.busWrite
  split
  · rfl
  · split
    · rfl
    · split
      · rw [hc, hs]
      · rfl

/-! ## One drive CPU cycle -/

/-- Another CPU whose lines meet the invariant. -/
theorem Drive.Ok.withCpu {d : Drive} (h : d.Ok) {c : Cpu} (hc : c.lines.IrqOk) : ({ d with cpu := c } : Drive).Ok :=
  { h with irq := hc }

theorem Drive.Ok.viaLines {d : Drive} (h : d.Ok) : d.viaLines.Ok :=
  (h.of_frame (e := d.takeDraw.2) rfl).withCpu (Lines.IrqOk.driveIrq _ _ _)

theorem Drive.Ok.cpuRow {d : Drive} (h : d.Ok) (cfg : Config) (p : IecPulls) : (d.cpuRow cfg p).Ok := by
  unfold Drive.cpuRow
  split
  · exact h
  · rename_i addr k hr
    refine (h.of_frame (Drive.busRead_frame p _ d)).withCpu ?_
    obtain ⟨h1, h2⟩ := (keepsLines_of_currentRow hr).irq (c := (d.busRead p (addr d.cpu).toNat).2.cpu.nextRow) ⟨_, rfl⟩
    refine Lines.IrqOk.of_eq h.irq (h1.trans ?_) ((congrArg _ h2).trans ?_) <;> rw [Cpu.nextRow_lines, Drive.busRead_cpu]
  · rename_i addr val k hr
    refine (h.busWrite _ _).withCpu ?_
    obtain ⟨h1, h2⟩ := (keepsLines_of_currentRow hr).irq (c := (d.busWrite (addr d.cpu).toNat (val d.cpu)).cpu.nextRow) rfl
    refine Lines.IrqOk.of_eq h.irq (h1.trans ?_) ((congrArg _ h2).trans ?_) <;> rw [Cpu.nextRow_lines, Drive.busWrite_cpu]

theorem Drive.Ok.cpuCycle {d : Drive} (h : d.Ok) (cfg : Config) (p : IecPulls) : (d.cpuCycle cfg p).Ok :=
  have hr := h.viaLines.cpuRow cfg p
  hr.withCpu hr.irq.housekeep

theorem Drive.Ok.clockEvent {d : Drive} (h : d.Ok) (cfg : Config) (p : IecPulls) : (d.clockEvent cfg p).Ok := by
  unfold Drive.clockEvent
  dsimp only
  split
  · exact (h.cpuCycle cfg p).of_frame rfl
  · exact h.of_frame rfl

/-! ## Bit events -/

@[simp] theorem Drive.byteReady_frame (d : Drive) : d.byteReady.frame = d.frame := by
  unfold Drive.byteReady; split <;> rfl

@[simp] theorem Drive.countBit_frame (d : Drive) : d.countBit.frame = d.frame := by
  unfold Drive.countBit
  split
  · rfl
  · split
    · exact Drive.byteReady_frame _
    · rfl

/-- The next offset is one of the halftrack (R516). -/
theorem Drive.nextOffset_mem (d : Drive) : d.nextOffset = 0 ∨ d.nextOffset < d.track.length := by
  unfold Drive.nextOffset; split
  · exact .inr (by assumption)
  · exact .inl rfl

theorem Drive.Ok.headBit {d : Drive} (h : d.Ok) : d.headBit.2.Ok := by
  unfold Drive.headBit
  split
  · exact h.of_frame rfl
  · exact { h with offset := d.nextOffset_mem }

theorem Drive.Ok.readBit {d : Drive} (h : d.Ok) : d.readBit.Ok := by
  have hb := (h.of_frame d.holdCount_frame).headBit
  exact (hb.of_frame rfl).of_frame (Drive.countBit_frame _)

/-- A halftrack with one bit replaced. -/
theorem Disk.mem_setBit {n off : Nat} {b : Bool} {k : Disk} {t : Track} (h : t ∈ (k.setBit n off b).tracks) :
    ∃ u ∈ k.tracks, t.length = u.length ∧ t.bits.length = u.bits.length := by
  rw [Disk.setBit, List.mem_iff_getElem] at h
  obtain ⟨j, hj, rfl⟩ := h
  rw [List.length_modify] at hj
  refine ⟨k.tracks[j], List.getElem_mem hj, ?_⟩
  rw [List.getElem_modify]
  split <;> simp

theorem Disk.setBit_track_length (n off : Nat) (b : Bool) (k : Disk) :
    ((k.setBit n off b).tracks.getD (n - 1) { length := 0, bits := [] }).length =
      (k.tracks.getD (n - 1) { length := 0, bits := [] }).length := by
  simp only [Disk.setBit, List.getD_eq_getElem?_getD, List.getElem?_modify_eq]
  cases k.tracks[n - 1]? <;> rfl

/-- The disk's part of a bit event in write mode (R519, R527). -/
def Drive.putBit (d : Drive) : Drive :=
  if d.track.length = 0 then d
  else { d with disk := if d.disk.writeProtected then d.disk
                  else d.disk.setBit d.halftrack d.offset (d.portA.getLsbD (7 - d.byteCount.toNat)),
                offset := d.nextOffset }

theorem Drive.writeBit_eq (d : Drive) : d.writeBit =
    if d.putBit.byteCount = 7#3 then ({ d.putBit with byteCount := 0#3 } : Drive).byteReady
    else { d.putBit with byteCount := d.putBit.byteCount + 1 } := rfl

theorem Drive.Ok.putBit {d : Drive} (h : d.Ok) : d.putBit.Ok := by
  unfold Drive.putBit
  split
  · exact h
  · split
    · exact { h with offset := d.nextOffset_mem }
    · generalize d.portA.getLsbD (7 - d.byteCount.toNat) = b
      refine { h with tracks := ?_, trackBits := fun t ht => ?_, offset := ?_ }
      · simpa [Disk.setBit] using h.tracks
      · obtain ⟨u, hu, h1, h2⟩ := Disk.mem_setBit ht
        rw [h1, h2]; exact h.trackBits u hu
      · have hn := d.nextOffset_mem
        rwa [Drive.track, ← Disk.setBit_track_length d.halftrack d.offset b] at hn

theorem Drive.Ok.writeBit {d : Drive} (h : d.Ok) : d.writeBit.Ok := by
  rw [Drive.writeBit_eq]
  split
  · exact (h.putBit.of_frame rfl).of_frame (Drive.byteReady_frame _)
  · exact h.putBit.of_frame rfl

theorem Drive.Ok.bitReady {d : Drive} (h : d.Ok) : d.bitReady.Ok := by
  unfold Drive.bitReady
  split
  · exact h
  · split
    · exact h.readBit
    · exact h.writeBit

theorem Drive.Ok.carryEvent {d : Drive} (h : d.Ok) : d.carryEvent.Ok := by
  unfold Drive.carryEvent
  dsimp only
  split
  · refine Drive.Ok.bitReady (h.of_frame ?_)
    rfl
  · exact h.of_frame rfl

/-! ## The schedule -/

/-- What both events keep, every run of the drive keeps. -/
theorem Drive.run_induction {P : Drive → Prop} {cfg : Config} {p : IecPulls} (hclock : ∀ d, P d → P (d.clockEvent cfg p))
    (hcarry : ∀ d, P d → P d.carryEvent) (now : Nat) {d : Drive} (h : P d) : P (d.run cfg p now) := by
  unfold Drive.run
  generalize (now - d.nextClock) / 10000 + (now - d.nextCarry) / 8125 + 2 = n
  induction n generalizing d with
  | zero => exact h
  | succ n ih =>
    unfold Drive.runEvents
    split
    · split
      · exact ih (hcarry d h)
      · exact ih (hclock d h)
    · exact h

theorem Drive.Ok.run {d : Drive} (h : d.Ok) (cfg : Config) (p : IecPulls) (now : Nat) : (d.run cfg p now).Ok :=
  Drive.run_induction (P := Drive.Ok) (fun _ h => h.clockEvent cfg p) (fun _ h => h.carryEvent) now h

theorem Drive.Ok.doReset {d : Drive} (h : d.Ok) (k : ResetKind) (r : ResetRegs) : (d.doReset k r).Ok :=
  { h with via1 := ⟨rfl, rfl⟩, via2 := ⟨rfl, rfl⟩, irq := by cases k <;> exact (rfl : false = decide ((0#8 : Byte) ≠ 0#8)) }

theorem preserved_driveInv : Preserved State.DriveInv where
  devices s h := by rw [State.driveInv_iff] at h ⊢; rwa [State.devices_drive]
  finish s h := by rw [State.driveInv_iff] at h ⊢; rw [State.finish_drive]; exact h.run _ _ _
  busRead a s h := by rw [State.driveInv_iff] at h ⊢; rwa [State.busRead_drive]
  busWrite a v s h := by rw [State.driveInv_iff] at h ⊢; rwa [State.busWrite_drive]
  cpu s _ _ _ h := (State.driveInv_iff _).2 (s.driveInv_iff.1 h)
  reset k s h := (State.driveInv_iff _).2 ((s.driveInv_iff.1 h).doReset k _)

end Sys2Proof.Machine

namespace Sys2Proof

open Machine

/-- Settles O16: a drive CPU cycle and a bit event keep the invariant, and so does every run of them. -/
theorem stepKeepsDrive : Obligations.StepKeepsDrive := fun _ _ h ht => preserved_driveInv.step h ht

end Sys2Proof
end

section
/-! The instructions with an operand (41_load_store_transfer.md to 44_logic_shift.md, 46_flags_nop.md, 47_undocumented.md):
each is the template of its addressing mode with its data operation, so a form of one operation is an equation of `exec`. -/

namespace Sys2Proof.Machine

/-! ## The modes that most operations come in -/

section
variable (b : Byte) (w : Word)

/-- The seven modes of a class R operation on the accumulator. -/
theorem readForms_seven {f : ReadOp} {g : Regs → Byte → Regs} (hf : ∀ v c, OpSpec c (f v c) (g c.regs v))
    {izx zp abs izy zpx aby abx : Instr}
    (h1 : ∀ s, exec izx s = .next (s.runInstr [izx.opcode, b] (tIzxR f)))
    (h2 : ∀ s, exec zp s = .next (s.runInstr [zp.opcode, b] (tZpR f)))
    (h3 : ∀ s, exec abs s = .next (s.runInstr [abs.opcode, lo w, hi w] (tAbsR f)))
    (h4 : ∀ s, exec izy s = .next (s.runInstr [izy.opcode, b] (tIzyR f)))
    (h5 : ∀ s, exec zpx s = .next (s.runInstr [zpx.opcode, b] (tZpIdxR (·.x) f)))
    (h6 : ∀ s, exec aby s = .next (s.runInstr [aby.opcode, lo w, hi w] (tAbsIdxR (·.y) f)))
    (h7 : ∀ s, exec abx s = .next (s.runInstr [abx.opcode, lo w, hi w] (tAbsIdxR (·.x) f))) :
    ReadForms g [(izx, .izx b), (zp, .zp b), (abs, .abs w), (izy, .izy b), (zpx, .zpx b), (aby, .aby w), (abx, .abx w)] := by
  simp only [ReadForms, List.forall_mem_cons]
  exact ⟨reads_izx hf b h1, reads_zp hf b h2, reads_abs hf w h3, reads_izy hf b h4, reads_zpx hf b h5, reads_aby hf w h6,
    reads_abx hf w h7, List.forall_mem_nil _⟩

/-- The two modes of a class R operation without indexing. -/
theorem readForms_two {f : ReadOp} {g : Regs → Byte → Regs} (hf : ∀ v c, OpSpec c (f v c) (g c.regs v))
    {zp abs : Instr} (h1 : ∀ s, exec zp s = .next (s.runInstr [zp.opcode, b] (tZpR f)))
    (h2 : ∀ s, exec abs s = .next (s.runInstr [abs.opcode, lo w, hi w] (tAbsR f))) :
    ReadForms g [(zp, .zp b), (abs, .abs w)] := by
  simp only [ReadForms, List.forall_mem_cons]
  exact ⟨reads_zp hf b h1, reads_abs hf w h2, List.forall_mem_nil _⟩

section
variable {f : ModifyOp} {res : Regs → Byte → Byte} {g : Regs → Byte → Regs}
  (hm : ∀ v c, OpSpec c (f v c).2 (g c.regs v)) (hr : ∀ v c, (f v c).1 = res c.regs v)
include hm hr

/-- The four modes of a documented class M operation. -/
theorem modifyForms_four {zp abs zpx abx : Instr}
    (h1 : ∀ s, exec zp s = .next (s.runInstr [zp.opcode, b] (tZpM f)))
    (h2 : ∀ s, exec abs s = .next (s.runInstr [abs.opcode, lo w, hi w] (tAbsM f)))
    (h3 : ∀ s, exec zpx s = .next (s.runInstr [zpx.opcode, b] (tZpIdxM (·.x) f)))
    (h4 : ∀ s, exec abx s = .next (s.runInstr [abx.opcode, lo w, hi w] (tAbsIdxM (·.x) f))) :
    ModifyForms res g [(zp, .zp b), (abs, .abs w), (zpx, .zpx b), (abx, .abx w)] := by
  simp only [ModifyForms, List.forall_mem_cons]
  exact ⟨modifies_zp hm hr b h1, modifies_abs hm hr w h2, modifies_zpx hm hr b h3, modifies_abx hm hr w h4,
    List.forall_mem_nil _⟩

/-- The seven modes of an undocumented class M operation. -/
theorem modifyForms_seven {izx zp abs izy zpx aby abx : Instr}
    (h1 : ∀ s, exec izx s = .next (s.runInstr [izx.opcode, b] (tIzxM f)))
    (h2 : ∀ s, exec zp s = .next (s.runInstr [zp.opcode, b] (tZpM f)))
    (h3 : ∀ s, exec abs s = .next (s.runInstr [abs.opcode, lo w, hi w] (tAbsM f)))
    (h4 : ∀ s, exec izy s = .next (s.runInstr [izy.opcode, b] (tIzyM f)))
    (h5 : ∀ s, exec zpx s = .next (s.runInstr [zpx.opcode, b] (tZpIdxM (·.x) f)))
    (h6 : ∀ s, exec aby s = .next (s.runInstr [aby.opcode, lo w, hi w] (tAbsIdxM (·.y) f)))
    (h7 : ∀ s, exec abx s = .next (s.runInstr [abx.opcode, lo w, hi w] (tAbsIdxM (·.x) f))) :
    ModifyForms res g
      [(izx, .izx b), (zp, .zp b), (abs, .abs w), (izy, .izy b), (zpx, .zpx b), (aby, .aby w), (abx, .abx w)] := by
  simp only [ModifyForms, List.forall_mem_cons]
  exact ⟨modifies_izx hm hr b h1, modifies_zp hm hr b h2, modifies_abs hm hr w h3, modifies_izy hm hr b h4,
    modifies_zpx hm hr b h5, modifies_aby hm hr w h6, modifies_abx hm hr w h7, List.forall_mem_nil _⟩

end

end

/-! ## Operations in the form the templates take them -/

theorem spec_aslA (c : Cpu) : OpSpec c (onA aluAsl c)
    { c.regs with a := aslValue c.regs.a, p := shiftFlags c.regs.p (aslValue c.regs.a) (c.regs.a.getLsbD 7) } :=
  spec_onA (val := fun _ v => aslValue v) (fl := fun r v => shiftFlags r.p (aslValue v) (v.getLsbD 7)) spec_asl val_asl c
theorem spec_lsrA (c : Cpu) : OpSpec c (onA aluLsr c)
    { c.regs with a := lsrValue c.regs.a, p := shiftFlags c.regs.p (lsrValue c.regs.a) (c.regs.a.getLsbD 0) } :=
  spec_onA (val := fun _ v => lsrValue v) (fl := fun r v => shiftFlags r.p (lsrValue v) (v.getLsbD 0)) spec_lsr val_lsr c
theorem spec_rolA (c : Cpu) : OpSpec c (onA aluRol c) { c.regs with
    a := rolValue c.regs.p.c c.regs.a, p := shiftFlags c.regs.p (rolValue c.regs.p.c c.regs.a) (c.regs.a.getLsbD 7) } :=
  spec_onA (val := fun r v => rolValue r.p.c v) (fl := fun r v => shiftFlags r.p (rolValue r.p.c v) (v.getLsbD 7))
    spec_rol val_rol c
theorem spec_rorA (c : Cpu) : OpSpec c (onA aluRor c) { c.regs with
    a := rorValue c.regs.p.c c.regs.a, p := shiftFlags c.regs.p (rorValue c.regs.p.c c.regs.a) (c.regs.a.getLsbD 0) } :=
  spec_onA (val := fun r v => rorValue r.p.c v) (fl := fun r v => shiftFlags r.p (rorValue r.p.c v) (v.getLsbD 0))
    spec_ror val_ror c

/-- A store changes no register. -/
theorem post_sta (c : Cpu) : aluSta.post c = c := rfl
theorem post_stx (c : Cpu) : aluStx.post c = c := rfl
theorem post_sty (c : Cpu) : aluSty.post c = c := rfl
theorem post_sax (c : Cpu) : aluSax.post c = c := rfl

end Sys2Proof.Machine

namespace Sys2Proof

open Machine

/-- Settles O28: `spec_lda`, `spec_ldx`, `spec_ldy`, `spec_lax`, `spec_las` in the templates of their modes. -/
theorem loads : Obligations.Loads := by
  intro b w
  refine ⟨?_, computes_imm spec_lda fun _ => rfl, ?_, computes_imm spec_ldx fun _ => rfl, ?_,
    computes_imm spec_ldy fun _ => rfl, ?_, ?_⟩
  · exact readForms_seven b w spec_lda (fun _ => rfl) (fun _ => rfl) (fun _ => rfl) (fun _ => rfl) (fun _ => rfl)
      (fun _ => rfl) (fun _ => rfl)
  all_goals simp only [ReadForms, List.forall_mem_cons]
  · exact ⟨reads_zp spec_ldx b fun _ => rfl, reads_abs spec_ldx w fun _ => rfl, reads_zpy spec_ldx b fun _ => rfl,
      reads_aby spec_ldx w fun _ => rfl, List.forall_mem_nil _⟩
  · exact ⟨reads_zp spec_ldy b fun _ => rfl, reads_abs spec_ldy w fun _ => rfl, reads_zpx spec_ldy b fun _ => rfl,
      reads_abx spec_ldy w fun _ => rfl, List.forall_mem_nil _⟩
  · exact ⟨reads_izx spec_lax b fun _ => rfl, reads_zp spec_lax b fun _ => rfl, reads_abs spec_lax w fun _ => rfl,
      reads_izy spec_lax b fun _ => rfl, reads_zpy spec_lax b fun _ => rfl, reads_aby spec_lax w fun _ => rfl,
      List.forall_mem_nil _⟩
  · exact ⟨reads_aby spec_las w fun _ => rfl, List.forall_mem_nil _⟩

/-- Settles O29: the four store operations in the templates of their modes. -/
theorem stores : Obligations.Stores := by
  intro b w
  simp only [WriteForms, List.forall_mem_cons]
  exact
    ⟨⟨writes_izx post_sta (fun _ => rfl) b fun _ => rfl, writes_zp post_sta (fun _ => rfl) b fun _ => rfl,
      writes_abs post_sta (fun _ => rfl) w fun _ => rfl, writes_izy post_sta (fun _ => rfl) b fun _ => rfl,
      writes_zpx post_sta (fun _ => rfl) b fun _ => rfl, writes_aby post_sta (fun _ => rfl) w fun _ => rfl,
      writes_abx post_sta (fun _ => rfl) w fun _ => rfl, List.forall_mem_nil _⟩,
    ⟨writes_zp post_stx (fun _ => rfl) b fun _ => rfl, writes_abs post_stx (fun _ => rfl) w fun _ => rfl,
      writes_zpy post_stx (fun _ => rfl) b fun _ => rfl, List.forall_mem_nil _⟩,
    ⟨writes_zp post_sty (fun _ => rfl) b fun _ => rfl, writes_abs post_sty (fun _ => rfl) w fun _ => rfl,
      writes_zpx post_sty (fun _ => rfl) b fun _ => rfl, List.forall_mem_nil _⟩,
    ⟨writes_izx post_sax (fun _ => rfl) b fun _ => rfl, writes_zp post_sax (fun _ => rfl) b fun _ => rfl,
      writes_abs post_sax (fun _ => rfl) w fun _ => rfl, writes_zpy post_sax (fun _ => rfl) b fun _ => rfl,
      List.forall_mem_nil _⟩⟩

/-- Settles O30: `T_IMP` with the six transfers. -/
theorem transfers : Obligations.Transfers :=
  ⟨computes_imp spec_tax fun _ => rfl, computes_imp spec_tay fun _ => rfl, computes_imp spec_txa fun _ => rfl,
    computes_imp spec_tya fun _ => rfl, computes_imp spec_tsx fun _ => rfl, computes_imp spec_txs fun _ => rfl⟩

/-- Settles O32: `spec_adc` in its eight modes. -/
theorem addWithCarry : Obligations.AddWithCarry := fun b w =>
  ⟨readForms_seven b w spec_adc (fun _ => rfl) (fun _ => rfl) (fun _ => rfl) (fun _ => rfl) (fun _ => rfl)
    (fun _ => rfl) (fun _ => rfl), computes_imm spec_adc fun _ => rfl⟩

/-- Settles O33: `spec_sbc` in its eight modes and in `USBC`. -/
theorem subtractWithBorrow : Obligations.SubtractWithBorrow := fun b w =>
  ⟨readForms_seven b w spec_sbc (fun _ => rfl) (fun _ => rfl) (fun _ => rfl) (fun _ => rfl) (fun _ => rfl)
    (fun _ => rfl) (fun _ => rfl), computes_imm spec_sbc fun _ => rfl, computes_imm spec_sbc fun _ => rfl⟩

/-- Settles O34: `spec_cmp`, `spec_cpx`, `spec_cpy` in their modes. -/
theorem compares : Obligations.Compares := fun b w =>
  ⟨readForms_seven b w spec_cmp (fun _ => rfl) (fun _ => rfl) (fun _ => rfl) (fun _ => rfl) (fun _ => rfl)
    (fun _ => rfl) (fun _ => rfl), computes_imm (g := fun r m => withFlags r (compareFlags r.p r.a m)) spec_cmp fun _ => rfl,
    readForms_two b w spec_cpx (fun _ => rfl) (fun _ => rfl),
    computes_imm (g := fun r m => withFlags r (compareFlags r.p r.x m)) spec_cpx fun _ => rfl,
    readForms_two b w spec_cpy (fun _ => rfl) (fun _ => rfl),
    computes_imm (g := fun r m => withFlags r (compareFlags r.p r.y m)) spec_cpy fun _ => rfl⟩

/-- Settles O35: `spec_inc`, `spec_dec` in the four class M modes, and `T_IMP` with the register forms. -/
theorem incrementsAndDecrements : Obligations.IncrementsAndDecrements := fun b w =>
  ⟨modifyForms_four b w spec_inc (fun _ _ => rfl) (fun _ => rfl) (fun _ => rfl) (fun _ => rfl) (fun _ => rfl),
    modifyForms_four b w spec_dec (fun _ _ => rfl) (fun _ => rfl) (fun _ => rfl) (fun _ => rfl) (fun _ => rfl),
    computes_imp spec_inx fun _ => rfl, computes_imp spec_iny fun _ => rfl, computes_imp spec_dex fun _ => rfl,
    computes_imp spec_dey fun _ => rfl⟩

/-- Settles O36: `spec_and`, `spec_ora`, `spec_eor`, `spec_bit` in their modes. -/
theorem logicAndBitTest : Obligations.LogicAndBitTest := fun b w =>
  ⟨readForms_seven b w spec_and (fun _ => rfl) (fun _ => rfl) (fun _ => rfl) (fun _ => rfl) (fun _ => rfl)
    (fun _ => rfl) (fun _ => rfl), computes_imm (g := fun r m => loadA r (r.a &&& m)) spec_and fun _ => rfl,
    readForms_seven b w spec_ora (fun _ => rfl) (fun _ => rfl) (fun _ => rfl) (fun _ => rfl) (fun _ => rfl)
    (fun _ => rfl) (fun _ => rfl), computes_imm (g := fun r m => loadA r (r.a ||| m)) spec_ora fun _ => rfl,
    readForms_seven b w spec_eor (fun _ => rfl) (fun _ => rfl) (fun _ => rfl) (fun _ => rfl) (fun _ => rfl)
    (fun _ => rfl) (fun _ => rfl), computes_imm (g := fun r m => loadA r (r.a ^^^ m)) spec_eor fun _ => rfl,
    readForms_two b w spec_bit (fun _ => rfl) (fun _ => rfl)⟩

/-- Settles O37: each shift in the four class M modes, and on the accumulator. -/
theorem shiftsAndRotates : Obligations.ShiftsAndRotates := fun b w =>
  ⟨modifyForms_four b w spec_asl val_asl (fun _ => rfl) (fun _ => rfl) (fun _ => rfl) (fun _ => rfl),
    computes_imp spec_aslA fun _ => rfl,
    modifyForms_four b w spec_lsr val_lsr (fun _ => rfl) (fun _ => rfl) (fun _ => rfl) (fun _ => rfl),
    computes_imp spec_lsrA fun _ => rfl,
    modifyForms_four b w spec_rol val_rol (fun _ => rfl) (fun _ => rfl) (fun _ => rfl) (fun _ => rfl),
    computes_imp spec_rolA fun _ => rfl,
    modifyForms_four b w spec_ror val_ror (fun _ => rfl) (fun _ => rfl) (fun _ => rfl) (fun _ => rfl),
    computes_imp spec_rorA fun _ => rfl⟩

/-- Settles O39: the operation of a `NOP` changes nothing, in every mode. -/
theorem noOperations : Obligations.NoOperations := by
  intro b w
  refine ⟨computes_imp spec_id fun _ => rfl, computes_imp spec_id fun _ => rfl, computes_imp spec_id fun _ => rfl,
    computes_imp spec_id fun _ => rfl, computes_imp spec_id fun _ => rfl, computes_imp spec_id fun _ => rfl,
    computes_imp spec_id fun _ => rfl, computes_imm (g := fun r _ => r) spec_nop fun _ => rfl,
    computes_imm (g := fun r _ => r) spec_nop fun _ => rfl,
    computes_imm (g := fun r _ => r) spec_nop fun _ => rfl,
    computes_imm (g := fun r _ => r) spec_nop fun _ => rfl,
    computes_imm (g := fun r _ => r) spec_nop fun _ => rfl,
    ?_⟩
  simp only [ReadForms, List.forall_mem_cons]
  exact ⟨reads_zp spec_nop b fun _ => rfl, reads_abs spec_nop w fun _ => rfl, reads_zpx spec_nop b fun _ => rfl,
    reads_abx spec_nop w fun _ => rfl, reads_zpx spec_nop b fun _ => rfl, reads_abx spec_nop w fun _ => rfl,
    reads_zp spec_nop b fun _ => rfl, reads_zpx spec_nop b fun _ => rfl, reads_abx spec_nop w fun _ => rfl,
    reads_zp spec_nop b fun _ => rfl, reads_zpx spec_nop b fun _ => rfl, reads_abx spec_nop w fun _ => rfl,
    reads_zpx spec_nop b fun _ => rfl, reads_abx spec_nop w fun _ => rfl, reads_zpx spec_nop b fun _ => rfl,
    reads_abx spec_nop w fun _ => rfl, List.forall_mem_nil _⟩

/-- Settles O43: the six combined operations in the seven class M modes. -/
theorem combinedModifies : Obligations.CombinedModifies := fun b w =>
  ⟨modifyForms_seven b w spec_slo val_slo (fun _ => rfl) (fun _ => rfl) (fun _ => rfl) (fun _ => rfl) (fun _ => rfl)
      (fun _ => rfl) (fun _ => rfl),
    modifyForms_seven b w spec_rla val_rla (fun _ => rfl) (fun _ => rfl) (fun _ => rfl) (fun _ => rfl) (fun _ => rfl)
      (fun _ => rfl) (fun _ => rfl),
    modifyForms_seven b w spec_sre val_sre (fun _ => rfl) (fun _ => rfl) (fun _ => rfl) (fun _ => rfl) (fun _ => rfl)
      (fun _ => rfl) (fun _ => rfl),
    modifyForms_seven b w spec_rra val_rra (fun _ => rfl) (fun _ => rfl) (fun _ => rfl) (fun _ => rfl) (fun _ => rfl)
      (fun _ => rfl) (fun _ => rfl),
    modifyForms_seven b w spec_dcp (fun _ _ => rfl) (fun _ => rfl) (fun _ => rfl) (fun _ => rfl) (fun _ => rfl)
      (fun _ => rfl) (fun _ => rfl) (fun _ => rfl),
    modifyForms_seven b w spec_isc (fun _ _ => rfl) (fun _ => rfl) (fun _ => rfl) (fun _ => rfl) (fun _ => rfl)
      (fun _ => rfl) (fun _ => rfl) (fun _ => rfl)⟩

end Sys2Proof
end

section
/-! The eight branches (45_control_flow.md R276): `T_REL` ends in its first, second or third row, as its condition and the
page of the target decide. -/

namespace Sys2Proof.Machine

/-- Two effects that agree where a read row applies them give the same row. -/
theorem State.runRow_read_congr (addr : Cpu → Word) {k k' : Byte → Cpu → Cpu} (ov : Option Byte) (u : State)
    (h : k (u.rowByte addr ov) u.readSlot.cpu.nextRow = k' (u.rowByte addr ov) u.readSlot.cpu.nextRow) :
    u.runRow (.read addr k) ov = u.runRow (.read addr k') ov := by
  simp only [State.runRow, State.performRead, State.busRead_cpu]
  simp only [State.rowByte, State.nextRead] at h
  rw [h]

/-! ## The rows of `T_REL` -/

/-- The displacement's row. -/
def relRow1 (cond : Flags → Bool) : Row :=
  readRow (·.pc) fun v c =>
    let c := ({ c with d := v, idl := v, pc := c.pc + 1 } : Cpu).poll
    if cond c.p then c else c.done

/-- The row that goes to a target in the same page. -/
def relRow2 : Row :=
  dummyRow (·.pc) fun c =>
    let t := c.branchTarget
    if hi t = hi c.pc then ({ c with pc := t } : Cpu).done else { c with pc := cat (hi c.pc) (lo t) }

/-- The row that corrects the page. -/
def relRow3 : Row :=
  dummyRow (·.pc) fun c =>
    let h := if c.d.getLsbD 7 then hi c.pc - 1 else hi c.pc + 1
    ({ c with pc := cat h (lo c.pc) } : Cpu).pollOr.done

theorem tRel_eq (cond : Flags → Bool) : tRel cond = [relRow1 cond, relRow2, relRow3] := rfl

/-- The displacement read, the branch taken. -/
def takenRow : Row := readRow (·.pc) fun v c => ({ c with d := v, idl := v, pc := c.pc + 1 } : Cpu).poll

/-- The displacement read, the branch not taken. -/
def notTakenRow : Row := readRow (·.pc) fun v c => ({ c with d := v, idl := v, pc := c.pc + 1 } : Cpu).poll.done

/-- A row that only moves PC. -/
def moveRow (t : Word) : Row := readRow (·.pc) fun _ c => { c with pc := t }

/-- A row that ends at `t`. -/
def jumpRow (t : Word) : Row := readRow (·.pc) fun _ c => ({ c with pc := t } : Cpu).done

/-- A row that ends at `t` with the OR form of the poll. -/
def jumpPollRow (t : Word) : Row := readRow (·.pc) fun _ c => ({ c with pc := t } : Cpu).pollOr.done

/-! ## Where a branch goes -/

theorem sext16_toNat : ∀ b : Byte, (sext16 b).toNat = if 128 ≤ b.toNat then 65280 + b.toNat else b.toNat := by
  decide +kernel

/-- A target in another page lies one page below or above, by the sign of the displacement. -/
theorem cat_branchPage (n : Word) (b : Byte) (h : hi (n + sext16 b) ≠ hi n) :
    cat (if b.getLsbD 7 then hi n - 1 else hi n + 1) (lo (n + sext16 b)) = n + sext16 b := by
  have hn := n.isLt
  have hb := b.isLt
  rw [Ne, ← BitVec.toNat_inj, hi_toNat, hi_toNat, BitVec.toNat_add, sext16_toNat] at h
  apply BitVec.eq_of_toNat_eq
  rw [cat_toNat, lo_toNat, BitVec.toNat_add, sext16_toNat, bit7_eq]
  by_cases h7 : 128 ≤ b.toNat
  · rw [if_pos h7] at h ⊢
    rw [decide_eq_true h7, if_pos rfl, BitVec.toNat_sub, hi_toNat, show BitVec.toNat (1 : Byte) = 1 from rfl]
    omega
  · rw [if_neg h7] at h ⊢
    rw [decide_eq_false h7, if_neg Bool.false_ne_true, BitVec.toNat_add, hi_toNat, show BitVec.toNat (1 : Byte) = 1 from rfl]
    omega

/-! ## The rows case by case -/

/-- The state after the fetch. -/
def State.fetched (op : Byte) (s : State) : State := s.runRow fetchRow (some op)

theorem State.fetched_mip (op : Byte) (s : State) : (s.fetched op).cpu.mip = .exec op 2 := by
  simp [State.fetched, fetchRow, State.rowByte_some]

theorem State.fetched_p (op : Byte) (s : State) : (s.fetched op).cpu.p = s.cpu.p := by simp [State.fetched, fetchRow]

/-- After the fetch the rows of the template run. -/
theorem State.runInstr_eq (op : Byte) (bs : List Byte) (rows : List Row) (s : State) :
    s.runInstr (op :: bs) rows = (s.fetched op).runRows bs rows := by
  have h := s.fetched_mip op
  unfold State.fetched at h
  rw [State.runInstr, State.runRows_cons, List.head?_cons, if_neg (by simp [h])]
  rfl

section
variable (op b : Byte) (cond : Flags → Bool) (s : State)

/-- The state after the displacement of a taken branch. -/
def State.branching (op b : Byte) (s : State) : State := (s.fetched op).runRow takenRow (some b)

theorem lead_branching : Lead s (s.branching op b) (s.cpu.pc + 2#16) := by
  refine ⟨?_, ?_, ?_, ?_, ?_, ?_, ?_, ?_, ?_, ?_, ?_⟩ <;>
    simp [State.branching, State.fetched, fetchRow, takenRow, Cpu.regs, BitVec.add_assoc]

theorem State.branching_d : (s.branching op b).cpu.d = b := by
  simp [State.branching, takenRow, State.rowByte_some]

theorem State.branching_mip : (s.branching op b).cpu.mip = .exec op 3 := by
  simp [State.branching, takenRow, State.fetched_mip, Mip.next]

theorem State.branchTarget_branching :
    (s.branching op b).readSlot.cpu.nextRow.branchTarget = s.cpu.pc + 2#16 + sext16 b := by
  simp [Cpu.branchTarget, (lead_branching op b s).pc, State.branching_d]

theorem State.runRow_relRow1_notTaken (h : cond s.cpu.p = false) :
    (s.fetched op).runRow (relRow1 cond) (some b) = (s.fetched op).runRow notTakenRow (some b) :=
  State.runRow_read_congr _ _ _ (if_neg (by simp [State.fetched_p, h]))

theorem State.runRow_relRow1_taken (h : cond s.cpu.p = true) :
    (s.fetched op).runRow (relRow1 cond) (some b) = s.branching op b :=
  State.runRow_read_congr _ _ _ (if_pos (by simp [State.fetched_p, h]))

theorem State.runRow_relRow2_near (hp : hi (s.cpu.pc + 2#16 + sext16 b) = hi (s.cpu.pc + 2#16)) :
    (s.branching op b).runRow relRow2 none =
      (s.branching op b).runRow (jumpRow (s.cpu.pc + 2#16 + sext16 b)) none := by
  refine State.runRow_read_congr _ _ _ ?_
  dsimp only
  rw [State.branchTarget_branching, if_pos (by simpa [(lead_branching op b s).pc] using hp)]

theorem State.runRow_relRow2_far (hp : hi (s.cpu.pc + 2#16 + sext16 b) ≠ hi (s.cpu.pc + 2#16)) :
    (s.branching op b).runRow relRow2 none = (s.branching op b).runRow
      (moveRow (cat (hi (s.cpu.pc + 2#16)) (lo (s.cpu.pc + 2#16 + sext16 b)))) none := by
  refine State.runRow_read_congr _ _ _ ?_
  dsimp only
  rw [State.branchTarget_branching, if_neg (by simpa [(lead_branching op b s).pc] using hp)]
  simp [(lead_branching op b s).pc]

theorem State.runInstr_tRel_notTaken (h : cond s.cpu.p = false) :
    s.runInstr [op, b] (tRel cond) = (s.fetched op).runRow notTakenRow (some b) := by
  rw [State.runInstr_eq, tRel_eq, State.runRows_cons, List.head?_cons, State.runRow_relRow1_notTaken op b cond s h,
    if_pos (by simp [notTakenRow])]

/-- A taken branch goes on from `branching` with the other two rows. -/
theorem State.runInstr_tRel_taken (h : cond s.cpu.p = true) :
    s.runInstr [op, b] (tRel cond) = (s.branching op b).runRows [] [relRow2, relRow3] := by
  rw [State.runInstr_eq, tRel_eq, State.runRows_cons, List.head?_cons, State.runRow_relRow1_taken op b cond s h,
    if_neg (by simp [State.branching_mip])]
  rfl

theorem State.runInstr_tRel_near (h : cond s.cpu.p = true)
    (hp : hi (s.cpu.pc + 2#16 + sext16 b) = hi (s.cpu.pc + 2#16)) :
    s.runInstr [op, b] (tRel cond) =
      (s.branching op b).runRow (jumpRow (s.cpu.pc + 2#16 + sext16 b)) none := by
  rw [State.runInstr_tRel_taken op b cond s h, State.runRows_cons, List.head?_nil, State.runRow_relRow2_near op b s hp,
    if_pos (by simp [jumpRow])]

/-- With the target in another page the page is wrong for one cycle. -/
theorem State.runInstr_tRel_far (h : cond s.cpu.p = true)
    (hp : hi (s.cpu.pc + 2#16 + sext16 b) ≠ hi (s.cpu.pc + 2#16)) :
    s.runInstr [op, b] (tRel cond) =
      ((s.branching op b).runRow (moveRow (cat (hi (s.cpu.pc + 2#16)) (lo (s.cpu.pc + 2#16 + sext16 b)))) none).runRow
        (jumpPollRow (s.cpu.pc + 2#16 + sext16 b)) none := by
  rw [State.runInstr_tRel_taken op b cond s h, State.runRows_cons, List.head?_nil, State.runRow_relRow2_far op b s hp,
    if_neg (by simp [moveRow, State.branching_mip, Mip.next]), List.tail_nil, State.runRows_one]
  refine State.runRow_read_congr _ _ _ ?_
  have pc := cat_branchPage _ _ hp
  simp [moveRow, State.branching_d] at pc ⊢
  rw [pc]

end

/-- A row that only moves PC keeps the lead. -/
theorem Lead.move {s u : State} {pc : Word} (h : Lead s u pc) (t : Word) : Lead s (u.runRow (moveRow t) none) t := by
  refine ⟨?_, ?_, ?_, ?_, ?_, ?_, ?_, ?_, ?_, ?_, ?_⟩
  · rw [← h.regs]; simp [moveRow, Cpu.regs]
  all_goals simp [moveRow, h.frozen, h.errorState, h.jamFlag, h.cfg, h.rom, h.inputs, h.ram, h.colorRam, h.port]

theorem branchesIf {i : Instr} {b : Byte} {cond : Flags → Bool}
    (he : ∀ s, exec i s = .next (s.runInstr [i.opcode, b] (tRel cond))) : BranchesIf i b cond := by
  intro s
  refine ⟨_, he s, And.comm.1 ?_⟩
  have lead := lead_branching i.opcode b s
  cases hc : cond s.cpu.p with
  | false =>
    rw [if_neg Bool.false_ne_true, State.runInstr_tRel_notTaken _ _ _ _ hc]
    refine (lead_fetch i.opcode s).last _ _ _ (fun c hr hp => ⟨hr, ?_⟩) fun _ _ => ⟨rfl, rfl, rfl, rfl⟩
    exact (congrArg (· + 1) hp).trans (BitVec.add_assoc ..)
  | true =>
    rw [if_pos rfl]
    by_cases hp : hi (s.cpu.pc + 2#16 + sext16 b) = hi (s.cpu.pc + 2#16)
    · rw [State.runInstr_tRel_near _ _ _ _ hc hp]
      exact lead.last _ _ _ (fun c hr _ => ⟨hr, rfl⟩) fun _ _ => ⟨rfl, rfl, rfl, rfl⟩
    · rw [State.runInstr_tRel_far _ _ _ _ hc hp]
      exact (lead.move _).last _ _ _ (fun c hr _ => ⟨hr, rfl⟩) fun _ _ => ⟨rfl, rfl, rfl, rfl⟩

end Sys2Proof.Machine

namespace Sys2Proof

open Machine

/-- Settles O42: `branchesIf` for the eight conditions. -/
theorem branches : Obligations.Branches := fun _ =>
  ⟨branchesIf fun _ => rfl, branchesIf fun _ => rfl, branchesIf fun _ => rfl, branchesIf fun _ => rfl,
    branchesIf fun _ => rfl, branchesIf fun _ => rfl, branchesIf fun _ => rfl, branchesIf fun _ => rfl⟩

end Sys2Proof
end

section
/-! The stack and control flow (42_stack.md, 45_control_flow.md; 60_exceptions.md section 2): the templates have no cases, so
what they do is computed row by row with the laws of `runRow`. -/

namespace Sys2Proof.Machine

/-! ## Pushes -/

/-- Memory after the bytes are pushed, first to last, from stack pointer `sp` on. -/
def Memory.pushes (sp : Byte) : List Byte → Memory → Memory
  | [], m => m
  | b :: bs, m => Memory.pushes (sp - 1) bs (m.write (256 + sp.toNat) b)

theorem Memory.read_pushes (bs : List Byte) (k : Nat) :
    ∀ (sp : Byte) (m : Memory), (Memory.pushes sp bs m).read k = (pushedByte sp bs k).getD (m.read k) := by
  induction bs with
  | nil => exact fun _ _ => rfl
  | cons b bs ih =>
    intro sp m
    rw [Memory.pushes, ih, Memory.read_write, pushedByte]
    cases pushedByte (sp - 1) bs k with
    | some v => rfl
    | none => by_cases h : k = 256 + sp.toNat <;> simp [h]

theorem Pushed.of_eq {s t : State} {bs : List Byte} (hr : t.ram = Memory.pushes s.cpu.sp bs s.ram)
    (hc : t.colorRam = s.colorRam) (hp : t.port = s.port) : Pushed s t bs :=
  ⟨fun k => hr ▸ Memory.read_pushes bs k _ _, fun _ => hc ▸ rfl, hp⟩

theorem sub_one_one (b : Byte) : b - 1#8 - 1#8 = b - 2#8 := by bv_omega
theorem sub_two_one (b : Byte) : b - 2#8 - 1#8 = b - 3#8 := by bv_omega

/-! ## The templates -/

/-- `T_PUSH`. -/
theorem completes_tPush (op : Byte) (val : Cpu → Byte) (hv : ∀ c d : Cpu, c.regs = d.regs → val c = val d) (s : State) :
    Completes s (s.runInstr [op] (tPush val)) (s.cpu.pc + 1) { s.cpu.regs with sp := s.cpu.sp - 1 } ∧
      Pushed s (s.runInstr [op] (tPush val)) [val s.cpu] := by
  have hval : val ((s.runRow fetchRow (some op)).runRow (dummyRow (·.pc) id) none).devices.cpu = val s.cpu :=
    hv _ _ (by simp [fetchRow, dummyRow, Cpu.regs])
  refine ⟨⟨?_, ?_, ?_, ?_, ?_, ?_, ?_, ?_, ?_⟩, .of_eq ?_ ?_ ?_⟩
  case refine_10 =>
    rw [← hval]
    simp [State.runInstr, State.runRows_cons2, fetchRow, tPush, dummyRow, Mip.next, Cpu.stackAddr, Memory.pushes]
  all_goals simp [State.runInstr, State.runRows_cons2, fetchRow, tPush, dummyRow, Mip.next, Cpu.regs, Cpu.stackAddr]

/-- `T_PULL` with `PLA`. -/
theorem completes_pla (s : State) :
    MemoryKept s (s.runInstr [0x68#8] (tPull aluLda)) ∧
      Completes s (s.runInstr [0x68#8] (tPull aluLda)) (s.cpu.pc + 1)
        (loadA { s.cpu.regs with sp := s.cpu.sp + 1 } (stackRead 0x68 [dummyRow (·.pc) id, popDummyRow] 1 s)) := by
  refine ⟨⟨?_, ?_, ?_⟩, ⟨?_, ?_, ?_, ?_, ?_, ?_, ?_, ?_, ?_⟩⟩ <;>
    simp [State.runInstr, State.runRows_cons2, fetchRow, tPull, readEndRow, aluLda, loadA, dummyRow, popDummyRow, Mip.next,
      Cpu.regs, State.rowByte_none, stackRead, stackCell, Cpu.stackAddr]

/-- `T_PULL` with `PLP`. -/
theorem completes_plp (s : State) :
    MemoryKept s (s.runInstr [0x28#8] (tPull aluPlp)) ∧
      Completes s (s.runInstr [0x28#8] (tPull aluPlp)) (s.cpu.pc + 1) { s.cpu.regs with
        sp := s.cpu.sp + 1, p := Flags.pull (stackRead 0x28 [dummyRow (·.pc) id, popDummyRow] 1 s) } := by
  refine ⟨⟨?_, ?_, ?_⟩, ⟨?_, ?_, ?_, ?_, ?_, ?_, ?_, ?_, ?_⟩⟩ <;>
    simp [State.runInstr, State.runRows_cons2, fetchRow, tPull, readEndRow, aluPlp, dummyRow, popDummyRow, Mip.next,
      Cpu.regs, State.rowByte_none, stackRead, stackCell, Cpu.stackAddr]

/-- `T_RTI`. -/
theorem completes_rti (s : State) :
    MemoryKept s (s.runInstr [0x40#8] rtiRows) ∧
      Completes s (s.runInstr [0x40#8] rtiRows)
        (cat (stackRead 0x40 (rtiRows.take 4) 3 s) (stackRead 0x40 (rtiRows.take 3) 2 s))
        { s.cpu.regs with sp := s.cpu.sp + 3, p := Flags.pull (stackRead 0x40 (rtiRows.take 2) 1 s) } := by
  refine ⟨⟨?_, ?_, ?_⟩, ⟨?_, ?_, ?_, ?_, ?_, ?_, ?_, ?_, ?_⟩⟩ <;>
    simp [State.runInstr, State.runRows_cons2, fetchRow, rtiRows, dummyRow, popDummyRow, Mip.next, Cpu.regs,
      State.rowByte_none, stackRead, stackCell, Cpu.stackAddr, BitVec.add_assoc]

/-- `T_RTS`. -/
theorem completes_rts (s : State) :
    MemoryKept s (s.runInstr [0x60#8] tRts) ∧
      Completes s (s.runInstr [0x60#8] tRts)
        (cat (stackRead 0x60 (tRts.take 3) 2 s) (stackRead 0x60 (tRts.take 2) 1 s) + 1)
        { s.cpu.regs with sp := s.cpu.sp + 2 } := by
  refine ⟨⟨?_, ?_, ?_⟩, ⟨?_, ?_, ?_, ?_, ?_, ?_, ?_, ?_, ?_⟩⟩ <;>
    simp [State.runInstr, State.runRows_cons2, fetchRow, tRts, dummyRow, popDummyRow, Mip.next, Cpu.regs,
      State.rowByte_none, stackRead, stackCell, Cpu.stackAddr, BitVec.add_assoc]

/-- `T_JSR`. -/
theorem completes_jsr (w : Word) (s : State) :
    Completes s (s.runInstr [0x20#8, lo w] tJsr)
        (cat ((s.runInstr [0x20, lo w] (tJsr.take 4)).nextRead (s.cpu.pc + 2)) (lo w))
        { s.cpu.regs with sp := s.cpu.sp - 2 } ∧
      Pushed s (s.runInstr [0x20#8, lo w] tJsr) [hi (s.cpu.pc + 2), lo (s.cpu.pc + 2)] := by
  refine ⟨⟨?_, ?_, ?_, ?_, ?_, ?_, ?_, ?_, ?_⟩, .of_eq ?_ ?_ ?_⟩ <;>
    simp [State.runInstr, State.runRows_cons2, fetchRow, tJsr, opLoRow, dummyRow, pushRow, Mip.next, Cpu.regs,
      State.rowByte_none, State.rowByte_some, Cpu.stackAddr, BitVec.add_assoc, sub_one_one, Memory.pushes]

/-- `T_JMP_ABS`. -/
theorem completes_jmpAbs (w : Word) (s : State) :
    Completes s (s.runInstr [0x4C#8, lo w, hi w] tJmpAbs) w s.cpu.regs ∧
      MemoryKept s (s.runInstr [0x4C#8, lo w, hi w] tJmpAbs) := by
  refine ⟨⟨?_, ?_, ?_, ?_, ?_, ?_, ?_, ?_, ?_⟩, ⟨?_, ?_, ?_⟩⟩ <;>
    simp [State.runInstr, State.runRows_cons2, fetchRow, tJmpAbs, opLoRow, Mip.next, Cpu.regs, State.rowByte_some]

/-- `T_JMP_IND`. -/
theorem completes_jmpInd (w : Word) (s : State) :
    MemoryKept s (s.runInstr [0x6C#8, lo w, hi w] tJmpInd) ∧
      Completes s (s.runInstr [0x6C#8, lo w, hi w] tJmpInd)
        (cat ((s.runInstr [0x6C, lo w, hi w] (tJmpInd.take 3)).nextRead (cat (hi w) (lo w + 1)))
          ((s.runInstr [0x6C, lo w, hi w] (tJmpInd.take 2)).nextRead w)) s.cpu.regs := by
  refine ⟨⟨?_, ?_, ?_⟩, ⟨?_, ?_, ?_, ?_, ?_, ?_, ?_, ?_, ?_⟩⟩ <;>
    simp [State.runInstr, State.runRows_cons2, fetchRow, tJmpInd, opLoRow, opHiRow, readDataRow, Mip.next, Cpu.regs,
      State.rowByte_none, State.rowByte_some, Cpu.absAddr]

/-- `T_BRK`. -/
theorem completes_brk (s : State) :
    Completes s (s.runInstr [0x00#8] brkRows)
        (cat ((s.runInstr [0x00] (brkRows.take 5)).nextRead 0xFFFF) ((s.runInstr [0x00] (brkRows.take 4)).nextRead 0xFFFE))
        { s.cpu.regs with sp := s.cpu.sp - 3, p := { s.cpu.p with i := true } } ∧
      Pushed s (s.runInstr [0x00#8] brkRows) [hi (s.cpu.pc + 2), lo (s.cpu.pc + 2), s.cpu.p.push true] ∧
      (s.runInstr [0x00#8] brkRows).cpu.doNmi = s.cpu.doNmi ∧ (s.runInstr [0x00#8] brkRows).cpu.doIrq = s.cpu.doIrq := by
  refine ⟨⟨?_, ?_, ?_, ?_, ?_, ?_, ?_, ?_, ?_⟩, .of_eq ?_ ?_ ?_, ?_, ?_⟩ <;>
    simp [State.runInstr, State.runRows_cons2, fetchRow, brkRows, entryRows, dummyRow, pushRow, Mip.next, Cpu.regs,
      State.rowByte_none, Cpu.stackAddr, BitVec.add_assoc, sub_one_one, sub_two_one, Memory.pushes]

/-- The interrupt sequence. -/
theorem completes_interrupt (k : IntKind) (s : State) (hk : k = .irq → s.cpu.doNmi = false) :
    Completes s (s.interrupt k)
        (cat ((s.runRows [] ((intFetchRow k :: intRows k).take 6)).nextRead (k.vector + 1))
          ((s.runRows [] ((intFetchRow k :: intRows k).take 5)).nextRead k.vector))
        { s.cpu.regs with sp := s.cpu.sp - 3, p := { s.cpu.p with i := true } } ∧
      Pushed s (s.interrupt k) [hi s.cpu.pc, lo s.cpu.pc, s.cpu.p.push false] ∧
      (s.interrupt k).cpu.doNmi = false ∧ (s.interrupt k).cpu.doIrq = false := by
  cases k <;> refine ⟨⟨?_, ?_, ?_, ?_, ?_, ?_, ?_, ?_, ?_⟩, .of_eq ?_ ?_ ?_, ?_, ?_⟩ <;>
    simp [State.interrupt, State.runRows_cons2, intFetchRow, intRows, entryRows, dummyRow, pushRow, Mip.next, Cpu.regs,
      State.rowByte_none, Cpu.stackAddr, sub_one_one, sub_two_one, Memory.pushes, hk]

end Sys2Proof.Machine

namespace Sys2Proof

open Machine

/-- Settles O22. -/
theorem brkEntry : Obligations.BrkEntry := fun s =>
  let ⟨completes, pushed, nmi, irq⟩ := completes_brk s
  ⟨_, rfl, completes, pushed, nmi, irq⟩

/-- Settles O23. -/
theorem rtiReturns : Obligations.RtiReturns := fun s => ⟨_, rfl, completes_rti s⟩

/-- Settles O31: `T_PUSH` and `T_PULL`. -/
theorem stackPushesAndPulls : Obligations.StackPushesAndPulls := fun s =>
  ⟨⟨_, rfl, completes_tPush 0x48 (·.a) (fun _ _ h => congrArg Regs.a h) s⟩,
    ⟨_, rfl, completes_tPush 0x08 (·.p.push true) (fun _ _ h => congrArg (·.p.push true) h) s⟩,
    ⟨_, rfl, completes_pla s⟩, ⟨_, rfl, completes_plp s⟩⟩

/-- Settles O40. -/
theorem jumps : Obligations.Jumps := fun w s => ⟨⟨_, rfl, completes_jmpAbs w s⟩, _, rfl, completes_jmpInd w s⟩

/-- Settles O41. -/
theorem subroutineCallAndReturn : Obligations.SubroutineCallAndReturn :=
  ⟨fun w s => ⟨_, rfl, completes_jsr w s⟩, fun s => ⟨_, rfl, completes_rts s⟩⟩

end Sys2Proof
end

section
/-! The remaining instructions (47_undocumented.md): the unstable stores, the immediate combinations with open constants, and
the jams. -/

namespace Sys2Proof.Machine

/-! ## Unstable stores (R318) -/

theorem lo_add_zext16 (w : Word) (x : Byte) : lo (w + zext16 x) = lo w + x := by rw [← add_index, lo_cat]

theorem hi_add_zext16 (w : Word) (x : Byte) :
    hi (w + zext16 x) = if (lo w + x).toNat < x.toNat then hi w + 1 else hi w := by rw [← add_index, hi_cat]

/-- The write row of an unstable store, in a state whose latches hold the effective address. -/
theorem Lead.unstableEnd {s u : State} {pc : Word} (h : Lead s u pc) {idx reg : Cpu → Byte} {post : Cpu → Cpu} {r : Regs → Byte}
    {g : Regs → Regs} {w : Word} (ha : Cpu.absAddr u.cpu = w + zext16 (idx s.cpu))
    (hx : ∀ c d : Cpu, c.regs = d.regs → idx c = idx d) (hr : ∀ c, reg c = r c.regs)
    (hp : ∀ c, OpSpec c (post c) (g c.regs)) :
    let v := u.devices.cpu.unstableValue idx reg
    Completes s (u.runRow (unstableRow idx reg post) none) pc (g s.cpu.regs) ∧
      (u.devices.cpu.stalled = false → v = r s.cpu.regs &&& (hi w + 1)) ∧
      Stores s u.devices (u.runRow (unstableRow idx reg post) none)
        (if hi (w + zext16 (idx s.cpu)) != hi w then cat v (lo (w + zext16 (idx s.cpu))) else w + zext16 (idx s.cpu)) v := by
  have regs : u.devices.cpu.regs = s.cpu.regs := by rw [← h.regs]; simp [Cpu.regs]
  have index : idx u.devices.cpu = idx s.cpu := hx _ _ regs
  have addr : Cpu.absAddr u.devices.cpu = w + zext16 (idx s.cpu) := (latchAddr_abs.eq (by simp) (by simp)).trans ha
  have high : u.devices.cpu.adh = hi (w + zext16 (idx s.cpu)) := by rw [← addr, Cpu.absAddr, hi_cat]
  have low : u.devices.cpu.adl = lo (w + zext16 (idx s.cpu)) := by rw [← addr, Cpu.absAddr, lo_cat]
  have cross : u.devices.cpu.crossed idx = (hi (w + zext16 (idx s.cpu)) != hi w) := by
    rw [crosses_index, Cpu.crossed, index, low, lo_add_zext16]
  have plus : u.devices.cpu.highPlus1 idx = hi w + 1 := by
    rw [Cpu.highPlus1, Cpu.crossed, index, low, high, lo_add_zext16, hi_add_zext16]
    by_cases hc : (lo w + idx s.cpu).toNat < (idx s.cpu).toNat <;>
      simp only [hc, decide_true, decide_false, Bool.false_eq_true, ↓reduceIte]
  have eaddr : u.devices.cpu.unstableAddr idx reg =
      if hi (w + zext16 (idx s.cpu)) != hi w then cat (u.devices.cpu.unstableValue idx reg) (lo (w + zext16 (idx s.cpu)))
      else w + zext16 (idx s.cpu) := by
    rw [Cpu.unstableAddr, cross, low, addr]
  obtain ⟨completes, stores⟩ := h.writeEnd (w := ⟨Cpu.unstableValue idx reg, post⟩) eaddr hp
  refine ⟨completes, fun hs => ?_, stores⟩
  rw [Cpu.unstableValue, hs, if_neg Bool.false_ne_true, plus, hr, regs]

section
variable {i : Instr} {reg : Cpu → Byte} {post : Cpu → Cpu} {r : Regs → Byte} {g : Regs → Regs}
  (hr : ∀ c, reg c = r c.regs) (hp : ∀ c, OpSpec c (post c) (g c.regs))
include hr hp

/-- The absolute indexed modes, by index register. -/
theorem unstableWrites_absIdx (w : Word) (m : EaMode) {idx : Cpu → Byte} (hx : ∀ c d : Cpu, c.regs = d.regs → idx c = idx d)
    (hm : m.writeLead = [opLoRow, opHiIdxRow idx, fixupRow idx] ∧ m.bytes = [lo w, hi w] ∧
      ∀ op s, m.base op s = w ∧ m.ea op s = w + zext16 (idx s.cpu) ∧
        m.crosses op s = (hi (w + zext16 (idx s.cpu)) != hi w))
    (he : ∀ s, exec i s = .next (s.runInstr [i.opcode, lo w, hi w] (tAbsIdxUnstable idx reg post))) :
    UnstableWrites i m r g := by
  intro s
  obtain ⟨lead, bytes, addr⟩ := hm
  obtain ⟨base, ea, crosses⟩ := addr i.opcode s
  obtain ⟨hl, h1, h2⟩ := lead_absIdx idx hx i.opcode w s
  have hf : s.runInstr [i.opcode, lo w, hi w] [opLoRow, opHiIdxRow idx, fixupRow idx] =
      (s.runInstr [i.opcode, lo w, hi w] [opLoRow, opHiIdxRow idx]).runRow (fixupRow idx) none := by
    simp [State.runInstr, State.runRows_cons2, fetchRow, opLoRow, opHiIdxRow, Mip.next]
  have hu : s.runInstr [i.opcode, lo w, hi w] (tAbsIdxUnstable idx reg post) =
      (s.runInstr [i.opcode, lo w, hi w] [opLoRow, opHiIdxRow idx, fixupRow idx]).runRow (unstableRow idx reg post) none := by
    simp [State.runInstr, State.runRows_cons2, fetchRow, tAbsIdxUnstable, opLoRow, opHiIdxRow, runRow_fixup_mip, Mip.next]
  obtain ⟨hl, ha⟩ := hl.fixup idx hx w h1 h2
  rw [← hf] at hl ha
  refine ⟨_, Cpu.unstableValue idx reg (m.storeState i.opcode s).cpu, (he s).trans (congrArg _ hu), ?_⟩
  rw [EaMode.length, EaMode.storeState, lead, bytes, base, ea, crosses]
  exact hl.unstableEnd ha hx hr hp

/-- The mode `izy`. -/
theorem unstableWrites_izy (b : Byte)
    (he : ∀ s, exec i s = .next (s.runInstr [i.opcode, b] (tIzyUnstable reg post))) : UnstableWrites i (.izy b) r g := by
  intro s
  have hx : ∀ c d : Cpu, c.regs = d.regs → c.y = d.y := fun _ _ h => congrArg Regs.y h
  obtain ⟨hl, h1, h2⟩ := lead_izy i.opcode b s
  have hf : s.runInstr [i.opcode, b] [opPtrRow, ptrLoRow, ptrHiIdxRow, fixupRow (·.y)] =
      (s.runInstr [i.opcode, b] [opPtrRow, ptrLoRow, ptrHiIdxRow]).runRow (fixupRow (·.y)) none := by
    simp [State.runInstr, State.runRows_cons2, fetchRow, opPtrRow, ptrLoRow, ptrHiIdxRow, Mip.next]
  have hu : s.runInstr [i.opcode, b] (tIzyUnstable reg post) =
      (s.runInstr [i.opcode, b] [opPtrRow, ptrLoRow, ptrHiIdxRow, fixupRow (·.y)]).runRow (unstableRow (·.y) reg post) none := by
    simp [State.runInstr, State.runRows_cons2, fetchRow, tIzyUnstable, opPtrRow, ptrLoRow, ptrHiIdxRow, runRow_fixup_mip,
      Mip.next]
  obtain ⟨hl, ha⟩ := hl.fixup (·.y) hx _ h1 h2
  rw [← hf] at hl ha
  exact ⟨_, _, (he s).trans (congrArg _ hu), hl.unstableEnd ha hx hr hp⟩

end

theorem spec_tas (c : Cpu) : OpSpec c (tasPost c) { c.regs with sp := c.regs.a &&& c.regs.x } :=
  .of rfl rfl rfl rfl rfl

/-! ## Immediate operands -/

/-- `T_IMM` at one state: the operation may depend on the configuration. -/
theorem completes_tImm (op b : Byte) {f : ReadOp} {r : Regs} (s : State) (hf : ∀ c : Cpu, c.regs = s.cpu.regs → (f b c).regs = r)
    (hk : ∀ v c, (f v c).pc = c.pc ∧ (f v c).pcFrozen = c.pcFrozen ∧ (f v c).errorState = c.errorState ∧
      (f v c).jamFlag = c.jamFlag) :
    MemoryKept s (s.runInstr [op, b] (tImm f)) ∧ Completes s (s.runInstr [op, b] (tImm f)) (s.cpu.pc + 2) r := by
  have hr : s.runInstr [op, b] (tImm f) = (s.fetched op).runRow
      (readRow (·.pc) fun v c => (f v ({ c with d := v, pc := c.pc + 1 } : Cpu).poll).done) (some b) := by
    rw [State.runInstr_eq]; exact State.runRows_one _ _ _
  rw [hr, And.comm]
  refine (lead_fetch op s).last _ _ _ (fun c h1 h2 => ⟨hf _ h1, (hk _ _).1.trans ?_⟩) fun v c => ⟨rfl, (hk _ _).2⟩
  exact (congrArg (· + 1) h2).trans (BitVec.add_assoc ..)

/-! ## Jams -/

theorem completes_tJam (op : Byte) (s : State) : let t := s.runInstr [op] tJam
    t.cpu.mip = .jammed ∧ t.cpu.errorState = .illegal ∧ t.cpu.jamFlag = true ∧ t.cpu.pc = s.cpu.pc + 1 ∧
      t.cpu.pcFrozen = s.cpu.pc ∧ t.cpu.regs = s.cpu.regs ∧ MemoryKept s t ∧ t.cfg = s.cfg ∧ t.rom = s.rom ∧
      t.inputs = s.inputs := by
  refine ⟨?_, ?_, ?_, ?_, ?_, ?_, ⟨?_, ?_, ?_⟩, ?_, ?_, ?_⟩ <;>
    simp [State.runInstr, State.runRows_cons2, fetchRow, tJam, dummyRow, Cpu.regs]

theorem step_jammed {s : State} (hr : s.inputs.resetReq = none) (hj : s.cpu.mip = .jammed) : step s = .fault .jammed := by
  rw [step, hr]; dsimp only; rw [hj]

end Sys2Proof.Machine

namespace Sys2Proof

open Machine

/-- Settles O44. -/
theorem immediateCombinations : Obligations.ImmediateCombinations := fun b =>
  ⟨computes_imm (g := fun r m => { r with a := r.a &&& m, p := shiftFlags r.p (r.a &&& m) ((r.a &&& m).getLsbD 7) })
      spec_anc fun _ => rfl,
    computes_imm (g := fun r m => { r with a := r.a &&& m, p := shiftFlags r.p (r.a &&& m) ((r.a &&& m).getLsbD 7) })
      spec_anc fun _ => rfl,
    computes_imm (g := fun r m => { r with
      a := lsrValue (r.a &&& m), p := shiftFlags r.p (lsrValue (r.a &&& m)) ((r.a &&& m).getLsbD 0) }) spec_alr fun _ => rfl,
    computes_imm spec_arr fun _ => rfl,
    computes_imm (g := fun r m => { r with x := (r.a &&& r.x) - m, p := compareFlags r.p (r.a &&& r.x) m })
      spec_sbx fun _ => rfl,
    fun s => ⟨_, rfl, completes_tImm 0x8B b s (fun c h => (spec_ane _ b c).regs.trans (by rw [h]; rfl))
      fun _ _ => ⟨rfl, rfl, rfl, rfl⟩⟩,
    fun s => ⟨_, rfl, completes_tImm 0xAB b s (fun c h => (spec_lxa _ b c).regs.trans (by rw [h]; rfl))
      fun _ _ => ⟨rfl, rfl, rfl, rfl⟩⟩⟩

/-- Settles O45. -/
theorem unstableStores : Obligations.UnstableStores := fun b w =>
  have hx : ∀ c d : Cpu, c.regs = d.regs → c.x = d.x := fun _ _ h => congrArg Regs.x h
  have hy : ∀ c d : Cpu, c.regs = d.regs → c.y = d.y := fun _ _ h => congrArg Regs.y h
  have aby : (EaMode.aby w).writeLead = [opLoRow, opHiIdxRow (·.y), fixupRow (·.y)] ∧ (EaMode.aby w).bytes = [lo w, hi w] ∧
      ∀ op s, (EaMode.aby w).base op s = w ∧ (EaMode.aby w).ea op s = w + zext16 s.cpu.y ∧
        (EaMode.aby w).crosses op s = (hi (w + zext16 s.cpu.y) != hi w) := ⟨rfl, rfl, fun _ _ => ⟨rfl, rfl, rfl⟩⟩
  ⟨unstableWrites_absIdx (fun _ => rfl) spec_id w _ hy aby fun _ => rfl,
    unstableWrites_izy (fun _ => rfl) spec_id b fun _ => rfl,
    unstableWrites_absIdx (fun _ => rfl) spec_id w _ hy aby fun _ => rfl,
    unstableWrites_absIdx (fun _ => rfl) spec_id w _ hx ⟨rfl, rfl, fun _ _ => ⟨rfl, rfl, rfl⟩⟩ fun _ => rfl,
    unstableWrites_absIdx (fun _ => rfl) spec_tas w _ hy aby fun _ => rfl⟩

/-- Settles O46. -/
theorem jams : Obligations.Jams := by
  intro i hi s
  have he : exec i s = .next (s.runInstr [i.opcode] tJam) := by
    simp only [List.mem_cons, List.not_mem_nil, or_false] at hi
    rcases hi with rfl | rfl | rfl | rfl | rfl | rfl | rfl | rfl | rfl | rfl | rfl | rfl <;> rfl
  obtain ⟨mip, error, jam, pc, frozen, regs, memory, cfg, rom, inputs⟩ := completes_tJam i.opcode s
  exact ⟨_, he, mip, error, jam, pc, frozen, regs, memory, cfg, rom, inputs,
    fun h => step_jammed (inputs ▸ h) mip⟩

end Sys2Proof
end

section
/-! Interrupt and return (60_exceptions.md R414): an `RTI` pulls what an entry pushed. The polls of `CLI`, `SEI`, `PLP` and
`RTI` (R408). -/

namespace Sys2Proof.Machine

/-! ## What the entry pushed is what `RTI` pulls -/

@[simp] theorem Flags.pull_push (p : Flags) (b : Bool) : Flags.pull (p.push b) = p := by
  obtain ⟨n, v, d, i, z, c⟩ := p
  revert n v d i z c b
  decide

/-- The cells of three pushed bytes. -/
theorem pushedByte_three (sp x y z : Byte) :
    pushedByte sp [x, y, z] (256 + (sp - 2).toNat) = some z ∧ pushedByte sp [x, y, z] (256 + (sp - 1).toNat) = some y ∧
      pushedByte sp [x, y, z] (256 + sp.toNat) = some x := by
  have h12 : (sp - 1).toNat ≠ (sp - 1 - 1).toNat := by bv_omega
  have h0 : sp.toNat ≠ (sp - 1 - 1).toNat ∧ sp.toNat ≠ (sp - 1).toNat := by constructor <;> bv_omega
  have e : sp - 2 = sp - 1 - 1 := by bv_omega
  refine ⟨?_, ?_, ?_⟩ <;> simp only [pushedByte, e, Nat.add_left_cancel_iff, h12, h0.1, h0.2, ↓reduceIte]

theorem Pushed.read_three {s t : State} {x y z : Byte} (h : Pushed s t [x, y, z]) :
    t.ram.read (256 + (s.cpu.sp - 2).toNat) = z ∧ t.ram.read (256 + (s.cpu.sp - 1).toNat) = y ∧
      t.ram.read (256 + s.cpu.sp.toNat) = x := by
  obtain ⟨hz, hy, hx⟩ := pushedByte_three s.cpu.sp x y z
  exact ⟨by rw [h.ram, hz]; rfl, by rw [h.ram, hy]; rfl, by rw [h.ram, hx]; rfl⟩

/-- The rows of `RTI` before its end store nothing. -/
theorem ram_rtiRows (s : State) (n : Nat) (h : n < 5) : (s.runInstr [0x40] (rtiRows.take n)).ram = s.ram := by
  match n, h with
  | 0, _ | 1, _ | 2, _ | 3, _ | 4, _ =>
    simp [State.runInstr, State.runRows_cons2, fetchRow, rtiRows, dummyRow, popDummyRow, Mip.next]

theorem stackRead_rti (s : State) (k : Byte) (n : Nat) (h : n < 5) :
    stackRead 0x40 (rtiRows.take n) k s = s.ram.read (256 + (s.cpu.sp + k).toNat) := by
  rw [stackRead, stackCell, State.nextRead_stack, ram_rtiRows s n h]

/-- `RTI` after an entry that pushed `pc` and the flags of `s`. -/
theorem rti_of_pushed {s t : State} {pc pc' : Word} {b : Bool} {q : Flags} (hp : Pushed s t [hi pc, lo pc, s.cpu.p.push b])
    (hc : Completes s t pc' { s.cpu.regs with sp := s.cpu.sp - 3, p := q }) :
    ∃ u, exec .rti t = .next u ∧ u.cpu.pc = pc ∧ u.cpu.regs = s.cpu.regs := by
  obtain ⟨_, done⟩ := completes_rti t
  obtain ⟨flags, low, high⟩ := hp.read_three
  have sp : t.cpu.sp = s.cpu.sp - 3 := congrArg Regs.sp hc.regs
  have e1 : s.cpu.sp - 3 + 1 = s.cpu.sp - 2 := by bv_omega
  have e2 : s.cpu.sp - 3 + 2 = s.cpu.sp - 1 := by bv_omega
  have e3 : s.cpu.sp - 3 + 3 = s.cpu.sp := by bv_omega
  refine ⟨_, rfl, done.pc.trans ?_, done.regs.trans ?_⟩
  · rw [stackRead_rti _ _ _ (by decide), stackRead_rti _ _ _ (by decide), sp, e2, e3, low, high, cat_hi_lo]
  · rw [stackRead_rti _ _ _ (by decide), hc.regs, sp, e1, e3, flags, Flags.pull_push]
    rfl

/-! ## A step at a fetch -/

theorem step_nmi {s : State} (hr : s.inputs.resetReq = none) (hm : s.cpu.mip = .fetch) (hn : s.cpu.doNmi = true) :
    step s = .next (s.interrupt .nmi) := by
  rw [step, hr]; dsimp only; rw [hm]; dsimp only; rw [State.stepBoundary, if_pos hn]

theorem step_irq {s : State} (hr : s.inputs.resetReq = none) (hm : s.cpu.mip = .fetch) (hn : s.cpu.doNmi = false)
    (hi : s.cpu.doIrq = true) : step s = .next (s.interrupt .irq) := by
  rw [step, hr]; dsimp only; rw [hm]; dsimp only; rw [State.stepBoundary, if_neg (by simp [hn]), if_pos hi]

/-- With an interrupt latched the step is the sequence of one of the two kinds. -/
theorem exists_step_interrupt {s : State} (hr : s.inputs.resetReq = none) (hm : s.cpu.mip = .fetch)
    (h : s.cpu.doNmi = true ∨ s.cpu.doIrq = true) :
    ∃ k, step s = .next (s.interrupt k) ∧ (k = .irq → s.cpu.doNmi = false) := by
  cases hn : s.cpu.doNmi with
  | true => exact ⟨.nmi, step_nmi hr hm hn, fun hk => nomatch hk⟩
  | false => exact ⟨.irq, step_irq hr hm hn (h.resolve_left (by simp [hn])), fun _ => rfl⟩

end Sys2Proof.Machine

namespace Sys2Proof

open Machine

/-- Settles O24: `rti_of_pushed` after `completes_interrupt` and after `completes_brk`. -/
theorem rtiUndoesInterrupt : Obligations.RtiUndoesInterrupt := by
  refine ⟨fun s t hr hm h ht => ?_, fun s t ht => ?_⟩
  · obtain ⟨k, hk, hn⟩ := exists_step_interrupt hr hm h
    obtain ⟨completes, pushed, _⟩ := completes_interrupt k s hn
    cases hk.symm.trans ht
    exact rti_of_pushed pushed completes
  · obtain ⟨completes, pushed, _⟩ := completes_brk s
    cases ht
    exact rti_of_pushed pushed completes

/-- Settles O25: each poll is in the template's last row. -/
theorem iFlagLatency : Obligations.IFlagLatency := by
  intro s
  refine ⟨⟨_, rfl, ?_, ?_⟩, ⟨_, rfl, ?_, ?_⟩, ⟨_, rfl, ?_⟩, ⟨_, rfl, ?_⟩⟩ <;>
    simp [State.runInstr, State.runRows_cons2, fetchRow, tImp, tPull, readEndRow, rtiRows, aluCli, aluSei, aluPlp, dummyRow,
      popDummyRow, Mip.next]

end Sys2Proof
end

section
/-! Which instructions write D, I, V and the stack pointer (10_state.md R25, R21): the data operations of a template decide
it, since its other rows change none of them. -/

namespace Sys2Proof.Machine

/-- Of D, I, V and SP, `d` has another value than `c` only where the opcode is in that one's list of R25 and R21. -/
structure Cpu.Keeps (op : Byte) (c d : Cpu) : Prop where
  decimal : op ∉ ([0xD8, 0xF8, 0x28, 0x40] : List Byte) → d.p.d = c.p.d
  interrupt : op ∉ ([0x58, 0x78, 0x28, 0x40, 0x00] : List Byte) → d.p.i = c.p.i
  overflow : op ∉ ([0x69, 0x65, 0x75, 0x6D, 0x7D, 0x79, 0x61, 0x71, 0xE9, 0xE5, 0xF5, 0xED, 0xFD, 0xF9, 0xE1, 0xF1, 0x24,
    0x2C, 0xB8, 0x28, 0x40, 0x67, 0x77, 0x6F, 0x7F, 0x7B, 0x63, 0x73, 0xE7, 0xF7, 0xEF, 0xFF, 0xFB, 0xE3, 0xF3, 0x6B,
    0xEB] : List Byte) → d.p.v = c.p.v
  stack : op ∉ ([0x9A, 0x48, 0x08, 0x68, 0x28, 0x20, 0x60, 0x40, 0x00, 0x9B, 0xBB] : List Byte) → d.sp = c.sp

theorem Cpu.Keeps.trans {op : Byte} {c d e : Cpu} (h : c.Keeps op d) (h' : d.Keeps op e) : c.Keeps op e :=
  ⟨fun ho => (h'.decimal ho).trans (h.decimal ho), fun ho => (h'.interrupt ho).trans (h.interrupt ho),
    fun ho => (h'.overflow ho).trans (h.overflow ho), fun ho => (h'.stack ho).trans (h.stack ho)⟩

theorem Cpu.keeps_of_eq {op : Byte} {c d : Cpu} (hp : d.p = c.p) (hs : d.sp = c.sp) : c.Keeps op d :=
  ⟨fun _ => by rw [hp], fun _ => by rw [hp], fun _ => by rw [hp], fun _ => hs⟩

/-- Every CPU that the row's effect makes of one keeps it so. -/
def Row.Keeps (op : Byte) (r : Row) : Prop := ∀ c c', r.Result c c' → c.Keeps op c'

/-! ## Rows -/

section
variable {op : Byte}

/-- The row writes neither the flags nor the stack pointer. -/
theorem keeps_read {addr : Cpu → Word} {k : Byte → Cpu → Cpu} (h : ∀ v c, (k v c).p = c.p ∧ (k v c).sp = c.sp) :
    Row.Keeps op (.read addr k) := by rintro c _ ⟨v, rfl⟩; exact Cpu.keeps_of_eq (h v c).1 (h v c).2

@[simp] theorem keeps_opLoRow : opLoRow.Keeps op := keeps_read fun _ _ => ⟨rfl, rfl⟩
@[simp] theorem keeps_opHiRow : opHiRow.Keeps op := keeps_read fun _ _ => ⟨rfl, rfl⟩
@[simp] theorem keeps_opHiIdxRow (idx : Cpu → Byte) : (opHiIdxRow idx).Keeps op := keeps_read fun _ _ => ⟨rfl, rfl⟩
@[simp] theorem keeps_opPtrRow : opPtrRow.Keeps op := keeps_read fun _ _ => ⟨rfl, rfl⟩
@[simp] theorem keeps_zpIdxRow (idx : Cpu → Byte) : (zpIdxRow idx).Keeps op := keeps_read fun _ _ => ⟨rfl, rfl⟩
@[simp] theorem keeps_ptrIdxRow : ptrIdxRow.Keeps op := keeps_read fun _ _ => ⟨rfl, rfl⟩
@[simp] theorem keeps_ptrLoRow : ptrLoRow.Keeps op := keeps_read fun _ _ => ⟨rfl, rfl⟩
@[simp] theorem keeps_ptrHiRow : ptrHiRow.Keeps op := keeps_read fun _ _ => ⟨rfl, rfl⟩
@[simp] theorem keeps_ptrHiIdxRow : ptrHiIdxRow.Keeps op := keeps_read fun _ _ => ⟨rfl, rfl⟩
@[simp] theorem keeps_readDataRow (addr : Cpu → Word) : (readDataRow addr).Keeps op := keeps_read fun _ _ => ⟨rfl, rfl⟩
@[simp] theorem keeps_dummyRow_id (addr : Cpu → Word) : (dummyRow addr id).Keeps op := keeps_read fun _ _ => ⟨rfl, rfl⟩
@[simp] theorem keeps_relRow3 : relRow3.Keeps op := keeps_read fun _ _ => ⟨rfl, rfl⟩

@[simp] theorem keeps_fixupRow (idx : Cpu → Byte) : (fixupRow idx).Keeps op :=
  keeps_read fun _ c => by split <;> exact ⟨rfl, rfl⟩

@[simp] theorem keeps_relRow1 (cond : Flags → Bool) : (relRow1 cond).Keeps op :=
  keeps_read fun _ c => by dsimp only; split <;> exact ⟨rfl, rfl⟩

@[simp] theorem keeps_relRow2 : relRow2.Keeps op :=
  keeps_read fun _ c => by dsimp only; split <;> exact ⟨rfl, rfl⟩

@[simp] theorem keeps_writeOldRow (addr : Cpu → Word) : (writeOldRow addr).Keeps op := by
  rintro c _ rfl; exact Cpu.keeps_of_eq rfl rfl

/-- A row that ends with the data operation `f`, whose CPU before `f` differs from `c` in latches alone. -/
theorem keeps_op {f : Cpu → Cpu} (hf : ∀ c, Cpu.Keeps op c (f c)) {c d : Cpu} (hp : d.p = c.p) (hs : d.sp = c.sp) :
    c.Keeps op (f d).done :=
  ((Cpu.keeps_of_eq hp hs).trans (hf d)).trans (Cpu.keeps_of_eq rfl rfl)

theorem keeps_readEndRow (addr : Cpu → Word) {f : ReadOp} (hf : ∀ v c, Cpu.Keeps op c (f v c)) :
    (readEndRow addr f).Keeps op := by rintro c _ ⟨v, rfl⟩; exact keeps_op (hf v) rfl rfl

theorem keeps_readCrossRow (idx : Cpu → Byte) {f : ReadOp} (hf : ∀ v c, Cpu.Keeps op c (f v c)) :
    (readCrossRow idx f).Keeps op := by
  rintro c _ ⟨v, rfl⟩
  dsimp only
  split
  · exact Cpu.keeps_of_eq rfl rfl
  · exact keeps_op (hf v) rfl rfl

theorem keeps_writeEndRow (addr : Cpu → Word) {o : WriteOp} (ho : ∀ c, Cpu.Keeps op c (o.post c)) :
    (writeEndRow addr o).Keeps op := by rintro c _ rfl; exact keeps_op ho rfl rfl

theorem keeps_writeNewRow (addr : Cpu → Word) {f : ModifyOp} (hf : ∀ v c, Cpu.Keeps op c (f v c).2) :
    (writeNewRow addr f).Keeps op := by rintro c _ rfl; exact keeps_op (f := fun d => (f c.d d).2) (hf c.d) (d := c.poll) rfl rfl

theorem keeps_unstableRow (idx reg : Cpu → Byte) {post : Cpu → Cpu} (hp : ∀ c, Cpu.Keeps op c (post c)) :
    (unstableRow idx reg post).Keeps op := by rintro c _ rfl; exact keeps_op hp rfl rfl

theorem keeps_popDummyRow (hs : ∀ c : Cpu, c.Keeps op { c with sp := c.sp + 1 }) : popDummyRow.Keeps op := by
  rintro c _ ⟨v, rfl⟩; exact hs c

theorem keeps_pushRow (hs : ∀ c : Cpu, c.Keeps op { c with sp := c.sp - 1 }) (val : Cpu → Byte) :
    (pushRow val).Keeps op := by rintro c _ rfl; exact hs c

/-! ## Templates -/

/-- Where the operation and the stack moves of a template keep D, I, V and SP, so do all its rows. -/
theorem Template.keeps {T : Timing} {bs : List Byte} {rows : List Row} (h : Template (Cpu.Keeps op) T bs rows) :
    ∀ r ∈ rows, r.Keeps op := by
  have tail {addr : Cpu → Word} {f : ModifyOp} (hf : ∀ v c, Cpu.Keeps op c (f v c).2) :
      ∀ r ∈ modifyRows addr f, r.Keeps op := by
    simpa [modifyRows] using keeps_writeNewRow addr hf
  cases h with
  | imp hf =>
    simp only [tImp, List.forall_mem_singleton]
    rintro c _ ⟨v, rfl⟩
    exact keeps_op hf rfl rfl
  | imm b hf =>
    simp only [tImm, List.forall_mem_singleton]
    rintro c _ ⟨v, rfl⟩
    exact keeps_op (hf v) rfl rfl
  | zpR b hf => simpa [tZpR] using keeps_readEndRow _ hf
  | zpW b ho => simpa [tZpW] using keeps_writeEndRow _ ho
  | zpM b hf => simpa [tZpM] using tail hf
  | zpxR b hf | zpyR b hf => simpa [tZpIdxR] using keeps_readEndRow _ hf
  | zpxW b ho | zpyW b ho => simpa [tZpIdxW] using keeps_writeEndRow _ ho
  | zpxM b hf => simpa [tZpIdxM] using tail hf
  | absR w hf => simpa [tAbsR] using keeps_readEndRow _ hf
  | absW w ho => simpa [tAbsW] using keeps_writeEndRow _ ho
  | absM w hf => simpa [tAbsM] using tail hf
  | abxR w hf | abyR w hf => simpa [tAbsIdxR] using ⟨keeps_readCrossRow _ hf, keeps_readEndRow _ hf⟩
  | abxW w ho | abyW w ho => simpa [tAbsIdxW] using keeps_writeEndRow _ ho
  | abxM w hf | abyM w hf => simpa [tAbsIdxM] using tail hf
  | izxR b hf => simpa [tIzxR] using keeps_readEndRow _ hf
  | izxW b ho => simpa [tIzxW] using keeps_writeEndRow _ ho
  | izxM b hf => simpa [tIzxM] using tail hf
  | izyR b hf => simpa [tIzyR] using ⟨keeps_readCrossRow _ hf, keeps_readEndRow _ hf⟩
  | izyW b ho => simpa [tIzyW] using keeps_writeEndRow _ ho
  | izyM b hf => simpa [tIzyM] using tail hf
  | absUnstable w hp => simpa [tAbsIdxUnstable] using keeps_unstableRow _ _ hp
  | izyUnstable b hp => simpa [tIzyUnstable] using keeps_unstableRow _ _ hp
  | rel b cond => simp [tRel_eq]
  | jmpAbs w =>
    simp only [tJmpAbs, List.forall_mem_cons, keeps_opLoRow, true_and]
    exact ⟨keeps_read fun _ _ => ⟨rfl, rfl⟩, by simp⟩
  | jmpInd w =>
    simp only [tJmpInd, List.forall_mem_cons, keeps_opLoRow, keeps_opHiRow, keeps_readDataRow, true_and]
    exact ⟨keeps_read fun _ _ => ⟨rfl, rfl⟩, by simp⟩
  | jsr b hs =>
    simp only [tJsr, List.forall_mem_cons, keeps_opLoRow, keeps_dummyRow_id, true_and]
    exact ⟨keeps_pushRow hs _, keeps_pushRow hs _, keeps_read fun _ _ => ⟨rfl, rfl⟩, by simp⟩
  | rts hs =>
    simp only [tRts, List.forall_mem_cons, keeps_dummyRow_id, true_and]
    refine ⟨keeps_popDummyRow hs, ?_, keeps_read fun _ _ => ⟨rfl, rfl⟩, keeps_read fun _ _ => ⟨rfl, rfl⟩, by simp⟩
    rintro c _ ⟨v, rfl⟩
    exact (hs c).trans (Cpu.keeps_of_eq rfl rfl)
  | rti hs hp =>
    simp only [rtiRows, List.forall_mem_cons, keeps_dummyRow_id, true_and]
    refine ⟨keeps_popDummyRow hs, ?_, ?_, keeps_read fun _ _ => ⟨rfl, rfl⟩, by simp⟩
    · rintro c _ ⟨v, rfl⟩
      exact hp v c
    · rintro c _ ⟨v, rfl⟩
      exact (hs c).trans (Cpu.keeps_of_eq rfl rfl)
  | brk hs hp =>
    simp only [brkRows, entryRows, List.forall_mem_cons]
    refine ⟨keeps_read fun _ _ => ⟨rfl, rfl⟩, keeps_pushRow hs _, keeps_pushRow hs _, keeps_pushRow hs _, ?_,
      keeps_read fun _ _ => ⟨rfl, rfl⟩, by simp⟩
    rintro c _ ⟨v, rfl⟩
    exact (hp c).trans (Cpu.keeps_of_eq rfl rfl)
  | push v hs =>
    simp only [tPush, List.forall_mem_cons, keeps_dummyRow_id, true_and]
    refine ⟨?_, by simp⟩
    rintro c _ rfl
    exact (hs c).trans (Cpu.keeps_of_eq rfl rfl)
  | pull hs hf => simpa [tPull] using ⟨keeps_popDummyRow hs, keeps_readEndRow _ hf⟩
  | jam =>
    rw [tJam, List.forall_mem_singleton]
    exact keeps_read fun _ _ => ⟨rfl, rfl⟩

/-! ## Runs -/

theorem State.runRow_keeps {r : Row} (h : r.Keeps op) (ov : Option Byte) (s : State) :
    s.cpu.Keeps op (s.runRow r ov).cpu := by
  cases r with
  | read addr k =>
    refine ((Cpu.keeps_of_eq ?_ ?_).trans (h s.readSlot.cpu.nextRow _ ⟨s.rowByte addr ov, rfl⟩)).trans
      (Cpu.keeps_of_eq ?_ ?_) <;> simp
  | write addr val k =>
    refine ((Cpu.keeps_of_eq ?_ ?_).trans (h s.devices.cpu.nextRow _ rfl)).trans (Cpu.keeps_of_eq ?_ ?_) <;> simp

theorem State.runRows_keeps {rows : List Row} (h : ∀ r ∈ rows, r.Keeps op) (bs : List Byte) (s : State) :
    s.cpu.Keeps op (s.runRows bs rows).cpu := by
  induction rows generalizing bs s with
  | nil => exact Cpu.keeps_of_eq rfl rfl
  | cons r rows ih =>
    obtain ⟨hr, hrows⟩ := List.forall_mem_cons.1 h
    have row := State.runRow_keeps hr bs.head? s
    rw [State.runRows_cons]
    split
    · exact row
    · exact row.trans (ih hrows _ _)

end

/-! ## The operations of the opcodes -/

theorem adc_flags (p : Flags) (a m : Byte) : (adc p a m).2.d = p.d ∧ (adc p a m).2.i = p.i := by
  unfold adc; split <;> exact ⟨rfl, rfl⟩

theorem arr_flags (p : Flags) (a m : Byte) : (arr p a m).2.d = p.d ∧ (arr p a m).2.i = p.i := by
  unfold arr; split <;> exact ⟨rfl, rfl⟩

section
variable {op : Byte} {c d : Cpu}

/-- What is left to check of an operation that writes one of the four. -/
theorem Cpu.Keeps.of_decimal (ho : op ∈ ([0xD8, 0xF8, 0x28, 0x40] : List Byte)) (hi : d.p.i = c.p.i) (hv : d.p.v = c.p.v)
    (hs : d.sp = c.sp) : c.Keeps op d := ⟨fun h => absurd ho h, fun _ => hi, fun _ => hv, fun _ => hs⟩

theorem Cpu.Keeps.of_interrupt (ho : op ∈ ([0x58, 0x78, 0x28, 0x40, 0x00] : List Byte)) (hd : d.p.d = c.p.d)
    (hv : d.p.v = c.p.v) (hs : d.sp = c.sp) : c.Keeps op d := ⟨fun _ => hd, fun h => absurd ho h, fun _ => hv, fun _ => hs⟩

theorem Cpu.Keeps.of_overflow (ho : op ∈ ([0x69, 0x65, 0x75, 0x6D, 0x7D, 0x79, 0x61, 0x71, 0xE9, 0xE5, 0xF5, 0xED, 0xFD,
    0xF9, 0xE1, 0xF1, 0x24, 0x2C, 0xB8, 0x28, 0x40, 0x67, 0x77, 0x6F, 0x7F, 0x7B, 0x63, 0x73, 0xE7, 0xF7, 0xEF, 0xFF, 0xFB,
    0xE3, 0xF3, 0x6B, 0xEB] : List Byte)) (hd : d.p.d = c.p.d) (hi : d.p.i = c.p.i) (hs : d.sp = c.sp) : c.Keeps op d :=
  ⟨fun _ => hd, fun _ => hi, fun h => absurd ho h, fun _ => hs⟩

theorem Cpu.Keeps.of_stack (ho : op ∈ ([0x9A, 0x48, 0x08, 0x68, 0x28, 0x20, 0x60, 0x40, 0x00, 0x9B, 0xBB] : List Byte))
    (hp : d.p.d = c.p.d ∧ d.p.i = c.p.i ∧ d.p.v = c.p.v) : c.Keeps op d :=
  ⟨fun _ => hp.1, fun _ => hp.2.1, fun _ => hp.2.2, fun h => absurd ho h⟩

/-- `RTI` and `PLP` write all four. -/
theorem Cpu.Keeps.of_pull (ho : op ∈ ([0x28, 0x40] : List Byte)) : c.Keeps op d := by
  simp only [List.mem_cons, List.not_mem_nil, or_false] at ho
  constructor <;> intro h <;> rcases ho with rfl | rfl <;> exact absurd (by decide) h

end

theorem template_keeps (cfg : Config) (i : Instr) :
    ∃ T, Template (Cpu.Keeps i.opcode) T (delivered i).tail (microcode cfg i.opcode) := by
  cases i <;> dsimp only [Instr.opcode, encode, List.headD, delivered]
  case bpl b => exact ⟨_, .rel b fun p => !p.n⟩
  case bvc b => exact ⟨_, .rel b fun p => !p.v⟩
  case bcc b => exact ⟨_, .rel b fun p => !p.c⟩
  case bne b => exact ⟨_, .rel b fun p => !p.z⟩
  all_goals apply Exists.intro
  all_goals constructor
  case cld | sed => exact fun _ => .of_decimal (by decide) rfl rfl rfl
  case cli | sei => exact fun _ => .of_interrupt (by decide) rfl rfl rfl
  case clv => exact fun _ => .of_overflow (by decide) rfl rfl rfl
  case adcImm | adcZp | adcAbs | adcZpx | adcAbx | adcAby | adcIzx | adcIzy | rraZp | rraAbs | rraZpx | rraAbx | rraAby |
      rraIzx | rraIzy =>
    exact fun _ _ => .of_overflow (by decide) (adc_flags _ _ _).1 (adc_flags _ _ _).2 rfl
  case arrImm => exact fun _ _ => .of_overflow (by decide) (arr_flags _ _ _).1 (arr_flags _ _ _).2 rfl
  case sbcImm | sbcZp | sbcAbs | sbcZpx | sbcAbx | sbcAby | sbcIzx | sbcIzy | usbcImm | iscZp | iscAbs | iscZpx | iscAbx |
      iscAby | iscIzx | iscIzy | bitZp | bitAbs =>
    exact fun _ _ => .of_overflow (by decide) rfl rfl rfl
  case plp.h.hs | rti.h.hs => exact fun _ => .of_pull (by decide)
  case plp.h.hf | rti.h.hp => exact fun _ _ => .of_pull (by decide)
  case txs | tasAby | pha | php | jsr | rts | pla.h.hs => exact fun _ => .of_stack (by decide) ⟨rfl, rfl, rfl⟩
  case lasAby => exact fun _ _ => .of_stack (by decide) ⟨rfl, rfl, rfl⟩
  case brk.h.hs => exact fun _ => .of_stack (by decide) ⟨rfl, rfl, rfl⟩
  case brk.h.hp => exact fun _ => .of_interrupt (by decide) rfl rfl rfl
  all_goals intros; exact ⟨fun _ => rfl, fun _ => rfl, fun _ => rfl, fun _ => rfl⟩

end Sys2Proof.Machine

namespace Sys2Proof

open Machine

/-- Settles O26. -/
theorem flagAndStackWriters : Obligations.FlagAndStackWriters := by
  intro i s t ht
  cases (exec_eq i s).symm.trans ht
  have fetch : fetchRow.Keeps i.opcode := keeps_read fun _ _ => ⟨rfl, rfl⟩
  have run : s.cpu.Keeps i.opcode (s.runInstr (delivered i) (microcode s.cfg i.opcode)).cpu :=
    State.runRows_keeps (List.forall_mem_cons.2 ⟨fetch, (template_keeps s.cfg i).choose_spec.keeps⟩) _ s
  exact ⟨run.decimal, run.interrupt, run.overflow, run.stack⟩

end Sys2Proof
end

section
/-! A step against the clock (40_datapath_cycles.md R140, R141, R147, R181): in cycles that the VIC-II does not steal, each row
is one clock cycle, so a run of rows is as many clock cycles as rows of it run. -/

namespace Sys2Proof.Machine

/-! ## The bytes delivered are those that the rows read -/

/-- Each of the bytes delivered is the one that its row reads. -/
def State.Feeds : List Byte → List Row → State → Prop
  | b :: bs, r :: rs, s => s.runRow r (some b) = s.runRow r none ∧ (s.runRow r none).Feeds bs rs
  | _, _, _ => True

theorem State.feeds_nil (rows : List Row) (s : State) : s.Feeds [] rows := by
  cases rows <;> exact trivial

/-- How many of the rows run before the next instruction boundary. -/
def State.rowsRun : List Byte → List Row → State → Nat
  | _, [], _ => 0
  | bs, r :: rs, s =>
    let t := s.runRow r bs.head?
    if t.cpu.atBoundary then 1 else t.rowsRun bs.tail rs + 1

theorem State.Feeds.run {bs : List Byte} {rows : List Row} {s : State} (h : s.Feeds bs rows) :
    s.runRows bs rows = s.runRows [] rows ∧ s.rowsRun bs rows = s.rowsRun [] rows := by
  induction rows generalizing bs s with
  | nil => exact ⟨rfl, rfl⟩
  | cons r rs ih =>
    cases bs with
    | nil => exact ⟨rfl, rfl⟩
    | cons b bs =>
      obtain ⟨row, rest⟩ := h
      obtain ⟨run, count⟩ := ih rest
      simp only [State.runRows_cons, State.rowsRun, List.head?_cons, List.head?_nil, List.tail_cons, List.tail_nil, row]
      rw [run, count]
      exact ⟨rfl, rfl⟩

theorem State.rowsRun_le (bs : List Byte) (rows : List Row) (s : State) : s.rowsRun bs rows ≤ rows.length := by
  induction rows generalizing bs s with
  | nil => exact le_rfl
  | cons r rs ih =>
    rw [State.rowsRun]
    split
    · exact Nat.succ_le_succ (Nat.zero_le _)
    · exact Nat.succ_le_succ (ih _ _)

/-- A row that reads at PC, fed with the byte there. -/
theorem State.runRow_pc_nextRead (k : Byte → Cpu → Cpu) (s : State) :
    s.runRow (readRow (·.pc) k) (some (s.nextRead s.cpu.pc)) = s.runRow (readRow (·.pc) k) none := by
  simp [State.runRow, State.performRead, State.nextRead]

/-- The operand rows of a template. -/
inductive Operands : List Byte → List Row → Prop
  | zero (rows) : Operands [] rows
  | one (b k rows) : Operands [b] (readRow (·.pc) k :: rows)
  | two (b b' k rows) : Operands [b, b'] (opLoRow :: readRow (·.pc) k :: rows)

theorem Template.operands {P : Cpu → Cpu → Prop} {T : Timing} {bs : List Byte} {rows : List Row} (h : Template P T bs rows) :
    Operands bs rows := by
  cases h <;> constructor

theorem delivered_prefix (i : Instr) : delivered i <+: encode i := by
  unfold delivered
  split
  · exact List.take_prefix 2 _
  · exact List.prefix_rfl

/-- The first two of the bytes that the fetch cycles read after the opcode feed the operand rows. -/
theorem Operands.feeds {bs : List Byte} {rows : List Row} (h : Operands bs rows) {s : State}
    (hb : bs <+: [s.nextRead s.cpu.pc, (s.runRow opLoRow none).nextRead (s.runRow opLoRow none).cpu.pc]) :
    s.Feeds bs rows := by
  cases h with
  | zero rows => exact State.feeds_nil rows s
  | one b k rows =>
    obtain ⟨rfl, _⟩ := List.cons_prefix_cons.1 hb
    exact ⟨s.runRow_pc_nextRead k, State.feeds_nil _ _⟩
  | two b b' k rows =>
    obtain ⟨rfl, hb'⟩ := List.cons_prefix_cons.1 hb
    obtain ⟨rfl, _⟩ := List.cons_prefix_cons.1 hb'
    exact ⟨s.runRow_pc_nextRead _, State.runRow_pc_nextRead k _, State.feeds_nil _ _⟩

/-- What the fetch cycles read feeds the rows of the instruction that it decodes to. -/
theorem State.Fetches.feeds {s : State} {i : Instr} {rest : List Byte} (h : s.Fetches i rest) :
    (s.fetched i.opcode).Feeds (delivered i).tail (microcode s.cfg i.opcode) := by
  obtain ⟨T, template, _⟩ := exists_template s.cfg i
  have fetched : s.fetched i.opcode = s.runRow fetchRow none := by
    rw [State.fetched, ← h.nextRead_pc, State.runRow_fetchRow_nextRead]
  have bytes : delivered i <+: s.fetchBytes :=
    (delivered_prefix i).trans ⟨rest, encode_append_of_decode h.decoded⟩
  obtain ⟨bs, hbs⟩ := exists_delivered i
  rw [hbs] at template bytes ⊢
  rw [fetched]
  exact template.operands.feeds (List.cons_prefix_cons.1 bytes).2

/-! ## A row as a clock cycle -/

/-- `rows` are those that the micro-instruction pointer selects from here on. -/
def Cpu.Selects (cfg : Config) (rows : List Row) (c : Cpu) : Prop :=
  match c.mip with
  | .exec op t => 2 ≤ t ∧ rows = (microcode cfg op).drop (t - 2)
  | .int k t => 2 ≤ t ∧ rows = (intRows k).drop (t - 2)
  | .fetch | .jammed => False

theorem Cpu.Selects.currentRow {cfg : Config} {r : Row} {rows : List Row} {c : Cpu} (h : c.Selects cfg (r :: rows)) :
    c.currentRow cfg = some r := by
  unfold Cpu.Selects at h
  unfold Cpu.currentRow
  split at h
  · obtain ⟨ht, he⟩ := h
    simp only [*, if_neg (Nat.not_lt.2 ht)]
    rw [← List.head?_drop, ← he, List.head?_cons]
  · obtain ⟨ht, he⟩ := h
    simp only [*, if_neg (Nat.not_lt.2 ht)]
    rw [← List.head?_drop, ← he, List.head?_cons]
  · exact h.elim
  · exact h.elim

theorem Cpu.Selects.next {cfg : Config} {r : Row} {rows : List Row} {c d : Cpu} (h : c.Selects cfg (r :: rows))
    (hm : d.mip = c.mip.next) : d.Selects cfg rows := by
  have drop {l : List Row} {t : Nat} (ht : 2 ≤ t) (he : r :: rows = l.drop (t - 2)) : rows = l.drop (t + 1 - 2) := by
    rw [show t + 1 - 2 = t - 2 + 1 by omega, ← List.tail_drop, ← he, List.tail_cons]
  unfold Cpu.Selects at h ⊢
  rw [hm]
  split at h
  · rename_i op t hc
    rw [hc]
    exact ⟨Nat.le_succ_of_le h.1, drop h.1 h.2⟩
  · rename_i k t hc
    rw [hc]
    exact ⟨Nat.le_succ_of_le h.1, drop h.1 h.2⟩
  · exact h.elim
  · exact h.elim

/-- A clock cycle that is not stolen is the row. -/
theorem State.clock_eq_runRow {s : State} {r : Row} (h : s.cpu.currentRow s.cfg = some r)
    (hr : s.devices.cpu.lines.rdy = true) : s.clock = s.runRow r none := by
  unfold State.clock
  rw [h]
  cases r with
  | read addr k => simp [hr, State.runRow, State.readSlot_of_rdy hr]
  | write addr val k => rfl

/-- A row whose effect leaves the lines takes one cycle. -/
theorem State.runRow_cycle {s : State} {r : Row} (h : r.Regular) (hr : s.devices.cpu.lines.rdy = true) :
    (s.runRow r none).cpu.lines.cycle = s.cpu.lines.cycle + 1 := by
  cases r with
  | read addr k => exact State.runRow_read_cycle hr (fun v c => (h c _ ⟨v, rfl⟩).1) none
  | write addr val k =>
    rw [State.runRow_write_lines, (h _ _ rfl).1]
    simp

/-- A row that does not end the instruction moves `mip` to the next one. -/
theorem State.runRow_mip {s : State} {r : Row} (h : r.Regular) (ov : Option Byte)
    (hb : (s.runRow r ov).cpu.atBoundary = false) : (s.runRow r ov).cpu.mip = s.cpu.mip.next := by
  obtain ⟨c, c', result, mip, _, mip', _⟩ := State.runRow_cpu r ov s
  rw [Cpu.atBoundary_eq] at hb
  rw [mip'] at hb ⊢
  obtain ⟨_, ⟨hm | hm, _⟩ | ⟨hm, _⟩⟩ := h c c' result
  · rw [hm, mip]
  · rw [hm] at hb; cases hb
  · rw [hm] at hb; cases hb

@[simp] theorem State.runRow_cfg (r : Row) (ov : Option Byte) (s : State) : (s.runRow r ov).cfg = s.cfg := by
  cases r <;> simp

/-- A run of the rows that `mip` selects, in cycles not stolen, is as many clock cycles. -/
theorem State.runRows_clock {rows : List Row} (reg : ∀ r ∈ rows, r.Regular) {s : State} (hs : s.cpu.Selects s.cfg rows)
    {n : Nat} (hn : rows.length ≤ n) (hu : ∀ m < n, ((State.clock^[m]) s).devices.cpu.lines.rdy = true) :
    s.runRows [] rows = State.clock^[s.rowsRun [] rows] s ∧
      (s.runRows [] rows).cpu.lines.cycle = s.cpu.lines.cycle + BitVec.ofNat 64 (s.rowsRun [] rows) := by
  induction rows generalizing s n with
  | nil => exact ⟨rfl, by simp [State.rowsRun]⟩
  | cons r rs ih =>
    obtain ⟨hr, hrs⟩ := List.forall_mem_cons.1 reg
    obtain ⟨n, rfl⟩ : ∃ k, n = k + 1 := ⟨n - 1, by simp at hn; omega⟩
    have rdy : s.devices.cpu.lines.rdy = true := hu 0 (Nat.succ_pos n)
    have clock := State.clock_eq_runRow hs.currentRow rdy
    have cycle := State.runRow_cycle hr rdy
    rw [State.runRows_cons, State.rowsRun, List.head?_nil, List.tail_nil]
    cases hb : (s.runRow r none).cpu.atBoundary with
    | true => exact ⟨clock.symm, by simpa using cycle⟩
    | false =>
      have selects : s.clock.cpu.Selects s.clock.cfg rs := by
        rw [clock, State.runRow_cfg]; exact hs.next (State.runRow_mip hr none hb)
      obtain ⟨run, count⟩ := ih hrs selects (Nat.le_of_succ_le_succ hn) fun m hm => hu (m + 1) (Nat.succ_lt_succ hm)
      rw [clock] at run count
      rw [if_neg Bool.false_ne_true, if_neg Bool.false_ne_true, Function.iterate_succ_apply, clock, run]
      refine ⟨rfl, ?_⟩
      rw [← run, count, cycle, BitVec.add_assoc, Nat.add_comm, BitVec.ofNat_add]
      rfl

/-! ## An instruction and an interrupt in clock cycles -/

theorem Template.length_le {P : Cpu → Cpu → Prop} {T : Timing} {bs : List Byte} {rows : List Row} (h : Template P T bs rows) :
    rows.length ≤ 7 := by
  cases h <;> simp [tImp, tImm, tZpR, tZpW, tZpM, tZpIdxR, tZpIdxW, tZpIdxM, tAbsR, tAbsW, tAbsM, tAbsIdxR, tAbsIdxW,
    tAbsIdxM, tIzxR, tIzxW, tIzxM, tIzyR, tIzyW, tIzyM, tAbsIdxUnstable, tIzyUnstable, tRel, tJmpAbs, tJmpInd, tJsr, tRts,
    rtiRows, brkRows, entryRows, tPush, tPull, tJam, modifyRows]

/-- The next seven cycles of an unstalled state. -/
theorem State.Unstalled.clock {s : State} (h : s.Unstalled) :
    ∀ m < 7, ((State.clock^[m]) s.clock).devices.cpu.lines.rdy = true := fun m hm => h (m + 1) (by omega)

/-- With no stall an instruction is one clock cycle for its fetch and one for each row that runs. -/
theorem State.Fetches.exec_clock {s : State} {i : Instr} {rest : List Byte} (h : s.Fetches i rest) (hu : s.Unstalled) :
    let n := (s.fetched i.opcode).rowsRun (delivered i).tail (microcode s.cfg i.opcode)
    exec i s = .next (State.clock^[n + 1] s) ∧ n ≤ 7 ∧
      (State.clock^[n + 1] s).cpu.lines.cycle = s.cpu.lines.cycle + BitVec.ofNat 64 (n + 1) := by
  obtain ⟨T, template, _⟩ := exists_template s.cfg i
  obtain ⟨bs, hbs⟩ := exists_delivered i
  have rdy : s.devices.cpu.lines.rdy = true := hu 0 (by decide)
  have feeds := h.feeds
  have clock : s.clock = s.fetched i.opcode := by
    rw [h.clock_eq rdy, State.fetched, ← h.nextRead_pc, State.runRow_fetchRow_nextRead]
  have cycle : s.clock.cpu.lines.cycle = s.cpu.lines.cycle + 1 := by
    rw [h.clock_eq rdy, State.runRow_fetchRow_cycle rdy]
  have selects : s.clock.cpu.Selects s.clock.cfg (microcode s.cfg i.opcode) := by
    rw [clock, Cpu.Selects, State.fetched_mip, State.fetched, State.runRow_cfg]
    exact ⟨le_rfl, rfl⟩
  obtain ⟨run, count⟩ := feeds.run
  obtain ⟨clocks, cycles⟩ := State.runRows_clock template.shape.regular selects template.length_le hu.clock
  dsimp only
  rw [exec_eq, hbs, State.runInstr_eq, Function.iterate_succ_apply]
  rw [hbs, List.tail_cons] at run count
  rw [← clock] at run count ⊢
  rw [List.tail_cons, run, count, ← clocks, cycles, cycle]
  refine ⟨rfl, (State.rowsRun_le _ _ _).trans template.length_le, ?_⟩
  rw [BitVec.add_assoc, Nat.add_comm, BitVec.ofNat_add]
  rfl

/-- A fetch takes the interrupt `k` (R142, R411). -/
def State.Takes (s : State) (k : IntKind) : Prop :=
  match k with
  | .nmi => s.cpu.doNmi = true
  | .irq => s.cpu.doNmi = false ∧ s.cpu.doIrq = true

theorem State.Takes.step_eq {s : State} {k : IntKind} (h : s.Takes k) (hr : s.inputs.resetReq = none)
    (hm : s.cpu.mip = .fetch) : step s = .next (s.interrupt k) := by
  cases k with
  | nmi => exact step_nmi hr hm h
  | irq => exact step_irq hr hm h.1 h.2

/-- An interrupt is taken, or an instruction fetched. -/
theorem State.takes_or_fetches {s : State} (hr : s.inputs.resetReq = none) (hm : s.cpu.mip = .fetch) :
    (∃ k, s.Takes k) ∨ ∃ i rest, s.Fetches i rest := by
  obtain ⟨i, rest, hd⟩ := s.exists_decode_fetchBytes
  cases hn : s.cpu.doNmi with
  | true => exact .inl ⟨.nmi, hn⟩
  | false =>
    cases hi : s.cpu.doIrq with
    | true => exact .inl ⟨.irq, hn, hi⟩
    | false => exact .inr ⟨i, rest, hr, hm, hn, hi, hd⟩

theorem State.clock_intFetch {s : State} {k : IntKind} (hm : s.cpu.mip = .fetch) (hk : s.Takes k)
    (hr : s.devices.cpu.lines.rdy = true) : s.clock = s.runRow (intFetchRow k) none := by
  refine State.clock_eq_runRow ?_ hr
  rw [Cpu.currentRow, hm]
  cases k with
  | nmi => exact congrArg some (if_pos hk)
  | irq => rw [if_neg (by simp [hk.1]), if_pos hk.2]

/-- All rows of the interrupt sequence run. -/
theorem State.rowsRun_intRows (k : IntKind) (s : State) (hm : s.cpu.mip = .int k 2) : s.rowsRun [] (intRows k) = 6 := by
  simp [State.rowsRun, intRows, entryRows, dummyRow, pushRow, hm, Mip.next]

/-- With no stall an interrupt sequence takes seven clock cycles. -/
theorem State.interrupt_clock {s : State} {k : IntKind} (hm : s.cpu.mip = .fetch) (hk : s.Takes k) (hu : s.Unstalled) :
    s.interrupt k = State.clock^[7] s ∧ (s.interrupt k).cpu.lines.cycle = s.cpu.lines.cycle + 7 := by
  have rdy : s.devices.cpu.lines.rdy = true := hu 0 (by decide)
  have clock := State.clock_intFetch hm hk rdy
  have mip : s.clock.cpu.mip = .int k 2 := by rw [clock]; cases k <;> simp [intFetchRow, dummyRow]
  have cycle : s.clock.cpu.lines.cycle = s.cpu.lines.cycle + 1 := by
    rw [clock]; cases k <;> simp [intFetchRow, dummyRow, State.readSlot_of_rdy rdy]
  have selects : s.clock.cpu.Selects s.clock.cfg (intRows k) := by rw [Cpu.Selects, mip]; exact ⟨le_rfl, rfl⟩
  obtain ⟨clocks, cycles⟩ := State.runRows_clock (shape_intRows k).regular selects
    (show (intRows k).length ≤ 7 by simp [intRows, entryRows]) hu.clock
  have run : s.interrupt k = s.clock.runRows [] (intRows k) := by
    rw [State.interrupt, State.runRows_cons, List.head?_nil, ← clock, if_neg (by simp [mip]), List.tail_nil]
  rw [State.rowsRun_intRows k _ mip] at clocks cycles
  rw [run, cycles, cycle, BitVec.add_assoc]
  exact ⟨clocks, rfl⟩

/-- The rest of an instruction, row by row, is as many clock cycles. -/
theorem State.finishInstr_clock {n : Nat} {s t : State} (h : s.finishInstr n = some t)
    (hu : ∀ m < n, ((State.clock^[m]) s).devices.cpu.lines.rdy = true) :
    ∃ m ≤ n, t = State.clock^[m] s ∧ (m = 0 → s.cpu.atBoundary = true) := by
  induction n generalizing s with
  | zero =>
    rw [State.finishInstr] at h
    split at h <;> cases h
    exact ⟨0, le_rfl, rfl, fun _ => by assumption⟩
  | succ n ih =>
    rw [State.finishInstr] at h
    split at h
    · cases h
      exact ⟨0, Nat.zero_le _, rfl, fun _ => by assumption⟩
    · split at h
      · cases h
      · rename_i r hr
        have clock := State.clock_eq_runRow hr (hu 0 (Nat.succ_pos n))
        obtain ⟨m, hm, ht, _⟩ := ih (s := s.clock) (clock ▸ h) fun m hm => hu (m + 1) (Nat.succ_lt_succ hm)
        exact ⟨m + 1, Nat.succ_le_succ hm, ht, nofun⟩

/-- A step from inside an instruction is one to eight clock cycles. -/
theorem State.stepInside_clock {s t : State} (h : s.stepInside = .next t) (hb : s.cpu.atBoundary = false)
    (hu : s.Unstalled) : ∃ n, 1 ≤ n ∧ n ≤ 8 ∧ t = State.clock^[n] s := by
  obtain ⟨n, hn, ht, h0⟩ := State.finishInstr_clock (State.finishInstr_of_stepInside h) hu
  refine ⟨n, Nat.one_le_iff_ne_zero.2 fun h => ?_, hn, ht⟩
  rw [h0 h] at hb
  cases hb

end Sys2Proof.Machine

namespace Sys2Proof

open Machine

/-- Settles O11. -/
theorem stepIsClocks : Obligations.StepIsClocks := by
  intro s t hr hu ht
  cases hm : s.cpu.mip with
  | fetch =>
    rcases State.takes_or_fetches hr hm with ⟨k, hk⟩ | ⟨i, rest, hf⟩
    · cases (hk.step_eq hr hm).symm.trans ht
      exact ⟨7, by decide, by decide, (State.interrupt_clock hm hk hu).1⟩
    · obtain ⟨run, hn, _⟩ := hf.exec_clock hu
      cases (hf.step_eq.trans run).symm.trans ht
      exact ⟨_, Nat.succ_pos _, Nat.succ_le_succ hn, rfl⟩
  | exec op n =>
    rw [step, hr] at ht
    simp only [hm] at ht
    exact State.stepInside_clock ht (by simp [hm]) hu
  | int k n =>
    rw [step, hr] at ht
    simp only [hm] at ht
    exact State.stepInside_clock ht (by simp [hm]) hu
  | jammed => cases (step_jammed hr hm).symm.trans ht

/-- Settles O21. -/
theorem interruptEntry : Obligations.InterruptEntry := by
  intro s k hr hm hk
  have takes : s.Takes k := hk
  obtain ⟨completes, pushed, nmi, irq⟩ := completes_interrupt k s (by rintro rfl; exact hk.1)
  exact ⟨_, takes.step_eq hr hm, completes, pushed, nmi, irq, fun hu => (State.interrupt_clock hm takes hu).2⟩

end Sys2Proof
end

section
/-! The cycles of an instruction (30_encoding.md R122; 40_datapath_cycles.md R156, R159, R170): how many rows of its template
run, and the opcode table. -/

namespace Sys2Proof.Machine

/-! ## Rows that run -/

theorem Row.Inner.inside {r : Row} (h : r.Inner) (ov : Option Byte) {s : State} (hs : s.cpu.atBoundary = false) :
    (s.runRow r ov).cpu.atBoundary = false := by
  obtain ⟨c, c', result, mip, _, mip', _⟩ := State.runRow_cpu r ov s
  rw [Cpu.atBoundary_eq] at hs ⊢
  rw [mip', (h c c' result).2.1, mip]
  cases hm : s.cpu.mip <;> simp_all [Mip.next]

/-- Every row of the lead runs. -/
theorem State.rowsRun_append {lead : List Row} (hl : ∀ r ∈ lead, r.Inner) (rest : List Row) (bs : List Byte) {s : State}
    (hs : s.cpu.atBoundary = false) :
    s.rowsRun bs (lead ++ rest) = lead.length + (s.runRows bs lead).rowsRun (bs.drop lead.length) rest := by
  induction lead generalizing bs s with
  | nil => simp
  | cons r lead ih =>
    obtain ⟨hr, hlead⟩ := List.forall_mem_cons.1 hl
    have inside := hr.inside bs.head? hs
    rw [List.cons_append, State.rowsRun, State.runRows_cons, inside, if_neg Bool.false_ne_true, if_neg Bool.false_ne_true,
      ih hlead _ inside, List.length_cons, List.drop_tail]
    omega

theorem State.runRows_inside {lead : List Row} (hl : ∀ r ∈ lead, r.Inner) (bs : List Byte) {s : State}
    (hs : s.cpu.atBoundary = false) : (s.runRows bs lead).cpu.atBoundary = false := by
  induction lead generalizing bs s with
  | nil => exact hs
  | cons r lead ih =>
    obtain ⟨hr, hlead⟩ := List.forall_mem_cons.1 hl
    have inside := hr.inside bs.head? hs
    rw [State.runRows_cons, inside, if_neg Bool.false_ne_true]
    exact ih hlead _ inside

@[simp] theorem State.rowsRun_one (bs : List Byte) (r : Row) (s : State) : s.rowsRun bs [r] = 1 := by
  simp [State.rowsRun]

/-- Of a last row that may be followed by another one, and of that one. -/
theorem State.rowsRun_two (r r' : Row) (s : State) :
    s.rowsRun [] [r, r'] = if (s.runRow r none).cpu.atBoundary then 1 else 2 := by
  rw [State.rowsRun, List.tail_nil, State.rowsRun_one, List.head?_nil]

theorem Shape.rowsRun_fixed {rows : List Row} (h : Shape .fixed rows) (bs : List Byte) {s : State}
    (hs : s.cpu.atBoundary = false) : s.rowsRun bs rows = rows.length := by
  cases h with
  | straight hi hl => simp [State.rowsRun_append hi _ bs hs]
  | jam => exact State.rowsRun_one _ _ _

theorem inner_crossRow : crossRow.Inner := inner_read fun _ _ => ⟨rfl, rfl, rfl⟩

theorem last_atBoundary {r : Row} (h : r.Last) (ov : Option Byte) (s : State) : (s.runRow r ov).cpu.atBoundary = true := by
  obtain ⟨c, c', result, _, _, mip, _⟩ := State.runRow_cpu r ov s
  rw [Cpu.atBoundary_eq, mip, (h c c' result).2.1]

/-- The row of a possible page crossing is the last one unless the index crossed. -/
theorem State.rowsRun_readCrossRow (idx : Cpu → Byte) {f : ReadOp} (hf : ∀ v c, Cpu.RegsOnly c (f v c)) {s : State}
    (hs : s.cpu.atBoundary = false) :
    s.rowsRun [] [readCrossRow idx f, readEndRow Cpu.absAddr f] =
      1 + if s.readSlot.cpu.nextRow.crossed idx then 1 else 0 := by
  rw [State.rowsRun_two]
  cases hc : s.readSlot.cpu.nextRow.crossed idx with
  | true =>
    rw [readCross_crossed idx f s hc, inner_crossRow.inside none hs, if_neg Bool.false_ne_true, if_pos rfl]
  | false =>
    rw [readCross_uncrossed idx f s hc, last_atBoundary (last_readEndRow _ hf), if_pos rfl, if_neg Bool.false_ne_true]

theorem State.fetched_inside (op : Byte) (s : State) : (s.fetched op).cpu.atBoundary = false := by
  simp [State.fetched_mip]

/-- The rows of a class R template whose index can cross a page: `w` is the address before the index is added. -/
theorem Lead.rowsRun_cross {s : State} {op : Byte} {bs : List Byte} {lead : List Row} {pc : Word}
    (h : Lead s (s.runInstr (op :: bs) lead) pc) (hl : ∀ r ∈ lead, r.Inner) (hb : bs.drop lead.length = []) {f : ReadOp}
    (hf : ∀ v c, Cpu.RegsOnly c (f v c)) {idx : Cpu → Byte} (hx : ∀ c d : Cpu, c.regs = d.regs → idx c = idx d) {w : Word}
    (hw : (s.runInstr (op :: bs) lead).cpu.adl = lo w + idx s.cpu) :
    (s.fetched op).rowsRun bs (lead ++ [readCrossRow idx f, readEndRow Cpu.absAddr f]) + 1 =
      lead.length + 2 + if hi (w + zext16 (idx s.cpu)) != hi w then 1 else 0 := by
  have inside := State.runRows_inside hl bs (s.fetched_inside op)
  rw [State.rowsRun_append hl _ _ (s.fetched_inside op), hb, State.rowsRun_readCrossRow idx hf inside, ← State.runInstr_eq]
  have index : idx (s.runInstr (op :: bs) lead).readSlot.cpu.nextRow = idx s.cpu := by
    refine hx _ _ ?_
    rw [← h.regs]
    simp [Cpu.regs]
  have low : (s.runInstr (op :: bs) lead).readSlot.cpu.nextRow.adl = lo w + idx s.cpu := by rw [← hw]; simp
  rw [Cpu.crossed, index, low, crosses_index]
  omega

/-- How many rows of a branch run. -/
theorem State.rowsRun_tRel (op b : Byte) (cond : Flags → Bool) (s : State) :
    (s.fetched op).rowsRun [b] (tRel cond) = 1 + branchExtra (cond s.cpu.p) b s := by
  rw [tRel_eq, State.rowsRun, List.head?_cons, branchExtra]
  cases hc : cond s.cpu.p with
  | false =>
    rw [State.runRow_relRow1_notTaken op b cond s hc, if_pos (by simp [notTakenRow]), if_neg Bool.false_ne_true]
  | true =>
    rw [State.runRow_relRow1_taken op b cond s hc, if_neg (by simp [State.branching_mip]), List.tail_cons,
      State.rowsRun_two, if_pos rfl]
    by_cases hp : hi (s.cpu.pc + 2#16 + sext16 b) = hi (s.cpu.pc + 2#16)
    · rw [State.runRow_relRow2_near op b s hp, if_pos (by simp [jumpRow]), if_pos hp]
    · rw [State.runRow_relRow2_far op b s hp, if_neg (by simp [moveRow, State.branching_mip, Mip.next]), if_neg hp]

/-- How many rows of a template run after the fetch. -/
theorem Template.rowsRun {T : Timing} {bs : List Byte} {rows : List Row} (h : Template Cpu.RegsOnly T bs rows) (op : Byte)
    (s : State) : (s.fetched op).rowsRun bs rows + T.slack = rows.length + T.extra op s := by
  cases T with
  | fixed => exact h.shape.rowsRun_fixed bs (s.fetched_inside op)
  | branch b cond =>
    cases h
    rw [State.rowsRun_tRel, Nat.add_right_comm]
    rfl
  | cross m =>
    have hx : ∀ c d : Cpu, c.regs = d.regs → c.x = d.x := fun _ _ h => congrArg Regs.x h
    have hy : ∀ c d : Cpu, c.regs = d.regs → c.y = d.y := fun _ _ h => congrArg Regs.y h
    cases h with
    | abxR w hf =>
      obtain ⟨lead, _, low⟩ := lead_absIdx (·.x) hx op w s
      exact lead.rowsRun_cross (by simp) rfl hf hx low
    | abyR w hf =>
      obtain ⟨lead, _, low⟩ := lead_absIdx (·.y) hy op w s
      exact lead.rowsRun_cross (by simp) rfl hf hy low
    | izyR b hf =>
      obtain ⟨lead, _, low⟩ := lead_izy op b s
      exact lead.rowsRun_cross (by simp) rfl hf hy low

end Sys2Proof.Machine

namespace Sys2Proof

open Machine

/-- Settles O27: the rows that run, and the columns of the opcode table. -/
theorem instructionCycles : Obligations.InstructionCycles := by
  intro s i rest noReset atFetch noNmi noIrq decoded hu
  have h : s.Fetches i rest := ⟨noReset, atFetch, noNmi, noIrq, decoded⟩
  obtain ⟨T, template, extra, table⟩ := exists_template s.cfg i
  obtain ⟨run, _, cycles⟩ := h.exec_clock hu
  have rows := template.rowsRun i.opcode s
  refine ⟨_, h.step_eq.trans run, ?_⟩
  rw [cycles, extra]
  congr 2
  omega

end Sys2Proof
end

section
/-! The bus and the banking (20_memory.md sections 2, 6) and the processor port (10_state.md section 5). -/

namespace Sys2Proof.Machine

/-! ## Where an access goes -/

section
variable {s : State} {a : Word} {v : Byte}

theorem State.busRead_of_port (h : s.portAt a = true) : s.busRead a =
    (if a = 0 then s.port.dir else s.port.readData s.cfg s.cpu.lines.cycle s.inputs.datasetteKey, s) := if_pos h

theorem State.busRead_of_ram (h : s.portAt a = false) (hs : s.peekSource a = .ram) :
    s.busRead a = (s.ram.read a.toNat, s) := by rw [State.busRead, h, hs]; rfl

theorem State.busRead_of_io (h : s.portAt a = false) (hs : s.peekSource a = .io) : s.busRead a = s.ioRead a := by
  rw [State.busRead, h, hs]; rfl

theorem State.busWrite_of_port (h : s.portAt a = true) : s.busWrite a v = s.portWrite a v := if_pos h

theorem State.busWrite_of_ram (h : s.portAt a = false) (ht : s.pokeTarget a = .ram) :
    s.busWrite a v = { s with ram := s.ram.write a.toNat v } := by rw [State.busWrite, h, ht]; rfl

theorem State.busWrite_of_io (h : s.portAt a = false) (ht : s.pokeTarget a = .io) : s.busWrite a v = s.ioWrite a v := by
  rw [State.busWrite, h, ht]; rfl

theorem State.busWrite_of_unmapped (h : s.portAt a = false) (ht : s.pokeTarget a = .unmapped) : s.busWrite a v = s := by
  rw [State.busWrite, h, ht]; rfl

theorem State.ramAt_iff : s.ramAt a = true ↔ s.portAt a = false ∧ s.pokeTarget a = .ram := by simp [State.ramAt]

theorem State.colorAt_iff : s.colorAt a = true ↔
    s.portAt a = false ∧ s.pokeTarget a = .io ∧ 8 ≤ ioBlock a ∧ ioBlock a < 12 := by
  simp [State.colorAt, ioBlock, and_assoc]

end

/-- The cartridge's ROMs are not written, whatever it does with its lines. -/
theorem State.cartAccess_roms (s : State) : s.cartAccess.cart.romL = s.cart.romL ∧ s.cartAccess.cart.romH = s.cart.romH := by
  unfold State.cartAccess; split <;> exact ⟨rfl, rfl⟩

theorem State.ioWrite_roms (a : Word) (v : Byte) (s : State) :
    (s.ioWrite a v).cart.romL = s.cart.romL ∧ (s.ioWrite a v).cart.romH = s.cart.romH := by
  unfold State.ioWrite
  split
  · exact ⟨rfl, rfl⟩
  · split
    · exact ⟨rfl, rfl⟩
    · split
      · exact ⟨rfl, rfl⟩
      · split
        · exact ⟨rfl, rfl⟩
        · split
          · exact ⟨rfl, rfl⟩
          · exact s.cartAccess_roms

theorem State.busWrite_roms (a : Word) (v : Byte) (s : State) :
    (s.busWrite a v).cart.romL = s.cart.romL ∧ (s.busWrite a v).cart.romH = s.cart.romH := by
  unfold State.busWrite
  split
  · exact ⟨rfl, rfl⟩
  · split
    · exact ⟨rfl, rfl⟩
    · exact s.ioWrite_roms a v
    · exact ⟨rfl, rfl⟩

/-! ## The tables -/

/-- What is written at an I/O page is read there (R75, R76). -/
theorem peekSrc_of_pokeTarget_io {unmapped : Bool} {b : BankLines} {page : Nat}
    (h : Machine.pokeTarget unmapped b page = .io) : peekSrc unmapped b page = .io := by
  unfold Machine.pokeTarget at h
  unfold peekSrc
  split at h
  · rename_i hu
    rw [if_pos hu]
    unfold pokeUltimax at h
    unfold peekUltimax
    repeat' split at h
    all_goals simp_all
  · rename_i hu
    rw [if_neg hu]
    split at h
    · rename_i hp
      simp only [Bool.and_eq_true, decide_eq_true_eq] at hp
      simp [peekNormal, hp.1, hp.2]
    · cases h

theorem State.peekSource_of_pokeTarget_io {s : State} {a : Word} (h : s.pokeTarget a = .io) : s.peekSource a = .io :=
  peekSrc_of_pokeTarget_io h

/-! ## The port -/

theorem mixBits_bit (data dir ext : Byte) {k : Nat} (hk : k < 8) :
    (mixBits data dir ext).getLsbD k = if dir.getLsbD k then data.getLsbD k else ext.getLsbD k := by
  rw [mixBits, BitVec.getLsbD_or, BitVec.getLsbD_and, BitVec.getLsbD_and, BitVec.getLsbD_not, decide_eq_true hk]
  cases dir.getLsbD k <;> simp

theorem ProcPort.ext_bit (s : State) {k : Nat} (hk : k < 8) :
    (s.port.ext s.cfg s.cpu.lines.cycle s.inputs.datasetteKey).getLsbD k = portPin s k := by
  match k, hk with
  | 0, _ => exact byteOfBits_bit0 ..
  | 1, _ => exact byteOfBits_bit1 ..
  | 2, _ => exact byteOfBits_bit2 ..
  | 3, _ => exact byteOfBits_bit3 ..
  | 4, _ => exact byteOfBits_bit4 ..
  | 5, _ => exact byteOfBits_bit5 ..
  | 6, _ => exact byteOfBits_bit6 ..
  | 7, _ => exact byteOfBits_bit7 ..

section
variable {s : State} (h : s.cfg.cpuModel = .mos6510)
include h

theorem State.portAt_zero : s.portAt 0 = true := by simp [State.portAt, h]
theorem State.portAt_one : s.portAt 1 = true := by simp [State.portAt, h]

theorem State.busRead_zero : s.busRead 0 = (s.port.dir, s) := by
  rw [State.busRead_of_port (State.portAt_zero h), if_pos rfl]

theorem State.busRead_one_bit {k : Nat} (hk : k < 8) :
    (s.busRead 1).1.getLsbD k = if s.port.dir.getLsbD k then s.port.data.getLsbD k else portPin s k := by
  rw [State.busRead_of_port (State.portAt_one h), if_neg (by decide), ProcPort.readData, mixBits_bit _ _ _ hk,
    ProcPort.ext_bit s hk]

theorem State.busWrite_zero (new : Byte) :
    (s.busWrite 0 new).port = s.port.writeDir s.cfg s.cpu.lines.cycle new := by
  rw [State.busWrite_of_port (State.portAt_zero h)]
  rfl

end

theorem before_discharge {c : BitVec 64} (h : c.toNat + 350000 < 2 ^ 64) : c + 349999 < c + 350000 := by bv_omega

theorem discharge_eq (s : State) (delay k : Nat) (new : Byte) (old : BitVec 64) :
    s.port.discharge s.cpu.lines.cycle delay k new old = dischargeAfter s delay k new old := by
  simp [ProcPort.discharge, dischargeAfter]

/-! ## Colour RAM on the bus -/

/-- The low nibble of a colour RAM read, whatever the free high nibble. -/
theorem nibble_of_color (d v : Byte) : ((d &&& 0xF0#8) ||| ((v &&& 0x0F#8) &&& 0x0F#8)) &&& 0x0F#8 = v &&& 0x0F#8 := by
  rw [BitVec.and_assoc v, BitVec.and_self, BitVec.and_or_distrib_right, BitVec.and_assoc d, BitVec.and_assoc v,
    BitVec.and_self]
  simp

theorem State.ioRead_color {s : State} {a : Word} (h8 : 8 ≤ ioBlock a) (h12 : ioBlock a < 12) :
    (s.ioRead a).1 = (s.takeDraw.1 &&& 0xF0#8) ||| (s.colorRam.read (a.toNat % 1024) &&& 0x0F#8) := by
  rw [State.ioRead, if_neg (by omega), if_neg (by omega), if_pos h12]

theorem State.ioWrite_color {s : State} {a : Word} {v : Byte} (h8 : 8 ≤ ioBlock a) (h12 : ioBlock a < 12) :
    s.ioWrite a v = { s with colorRam := s.colorRam.write (a.toNat % 1024) (v &&& 0x0F#8) } := by
  rw [State.ioWrite, if_neg (by omega), if_neg (by omega), if_pos h12]

section
variable {s : State} {a : Word} (m : Memory) (h : s.portAt a = false)
include h

theorem State.busRead_with_ram (hs : s.peekSource a = .ram) : (State.busRead a { s with ram := m }).1 = m.read a.toNat :=
  congrArg Prod.fst (State.busRead_of_ram (s := { s with ram := m }) h hs)

theorem State.busRead_with_colorRam (hs : s.peekSource a = .io) (h8 : 8 ≤ ioBlock a) (h12 : ioBlock a < 12) :
    (State.busRead a { s with colorRam := m }).1 =
      (s.takeDraw.1 &&& 0xF0#8) ||| (m.read (a.toNat % 1024) &&& 0x0F#8) :=
  (congrArg Prod.fst (State.busRead_of_io (s := { s with colorRam := m }) h hs)).trans (State.ioRead_color h8 h12)

end

end Sys2Proof.Machine

namespace Sys2Proof

open Machine

/-- Settles O47: both tables, setting by setting. -/
theorem bankTables : Obligations.BankTables := by
  refine ⟨?_, ?_⟩
  · rintro unmapped ⟨exrom, game, charen, hiram, loram⟩
    revert unmapped exrom game charen hiram loram
    decide +kernel
  · decide

/-- Settles O48. -/
theorem writeRouting : Obligations.WriteRouting := by
  refine ⟨fun s a v => ?_, ?_⟩
  · obtain ⟨low, high⟩ := s.busWrite_roms a v
    refine ⟨fun h => ⟨State.busWrite_of_port h, ?_⟩, State.busWrite_of_ram, State.busWrite_of_io,
      State.busWrite_of_unmapped, by simp, low, high⟩
    rw [State.busWrite_of_port h]
    rfl
  · intro unmapped b page _ hu hp
    rw [Machine.pokeTarget, if_neg (by simp [hu])]
    refine if_neg fun h => ?_
    obtain ⟨rfl, hio⟩ : page = 13 ∧ peekPageD b = .io := by simpa using h
    simp [peekSrc, hu, peekNormal, hio] at hp

/-- Settles O49. -/
theorem portReads : Obligations.PortReads := fun s h =>
  ⟨State.busRead_zero h, by rw [State.busRead_of_port (State.portAt_one h)], fun _ hk => State.busRead_one_bit h hk⟩

/-- Settles O50. -/
theorem portDischarge : Obligations.PortDischarge := by
  refine ⟨fun s new h => ?_, fun s h k hk hd => ?_, fun s u h h6 hdir hdata hc hcfg hport => ?_⟩
  · dsimp only
    rw [State.busWrite_zero h]
    exact ⟨discharge_eq s _ 3 new _, discharge_eq s _ 6 new _, discharge_eq s _ 7 new _⟩
  · simp only [List.mem_cons, List.not_mem_nil, or_false] at hk
    rcases hk with rfl | rfl | rfl <;> rw [State.busRead_one_bit h (by decide), hd] <;> simp [portPin]
  · rw [State.busWrite_zero h] at hport
    have stamp : u.port.discharge6 = s.cpu.lines.cycle + 350000 := by
      have discharge : (s.port.writeDir s.cfg s.cpu.lines.cycle 0).discharge6 =
          dischargeAfter s s.cfg.discharge6 6 0 s.port.discharge6 := discharge_eq s _ 6 0 _
      rw [hport, discharge, dischargeAfter, hdir, hdata, h6, if_pos (by decide), if_pos (by decide), BitVec.ofNat_eq_ofNat]
    have dir : u.port.dir = 0 := by rw [hport]; rfl
    have bit : (u.busRead 1).1.getLsbD 6 = decide (u.cpu.lines.cycle < s.cpu.lines.cycle + 350000) := by
      rw [State.busRead_one_bit (hcfg ▸ h) (by decide), dir, if_neg (by decide), ← stamp, portPin]
    rw [bit]
    exact ⟨fun hu => by rw [hu, decide_eq_true (before_discharge hc)],
      fun hu => by rw [hu, decide_eq_false (BitVec.lt_irrefl _)]⟩

/-- Settles O51. -/
theorem readAfterWrite : Obligations.ReadAfterWrite := by
  intro s a v
  refine ⟨fun hr hs => ?_, fun hc => ?_⟩
  · obtain ⟨hp, ht⟩ := State.ramAt_iff.1 hr
    rw [State.busWrite_of_ram hp ht]
    refine ⟨?_, fun b hb hpb hsb => ?_⟩
    · rw [State.busRead_with_ram _ hp hs, Memory.read_write_same]
    · rw [State.busRead_with_ram _ hpb hsb, State.busRead_of_ram hpb hsb]
      exact Memory.read_write_other _ _ _ _ fun h => hb (BitVec.eq_of_toNat_eq h)
  · obtain ⟨hp, ht, h8, h12⟩ := State.colorAt_iff.1 hc
    rw [State.busWrite_of_io hp ht, State.ioWrite_color h8 h12,
      State.busRead_with_colorRam _ hp (State.peekSource_of_pokeTarget_io ht) h8 h12, Memory.read_write_same]
    exact nibble_of_color _ _

end Sys2Proof
end

section
/-! One clock cycle (40_datapath_cycles.md R140, R144, R145) and the step at a fetch (R142, R181; 60_exceptions.md R411);
programs in RAM (20_memory.md R96). -/

namespace Sys2Proof.Machine

/-! ## The end of a cycle -/

theorem State.finish_devices (s : State) :
    (∃ tick, s.finish.cia1 = { s.cia1 with todTick := tick }) ∧ (∃ tick, s.finish.cia2 = { s.cia2 with todTick := tick }) ∧
      s.finish.vic = s.vic.advance s.cfg.vicModel ∧
      s.finish.drive = s.drive.run s.cfg s.iecPulls (s.elapsed + s.cfg.cycleDuration) :=
  ⟨⟨_, rfl⟩, ⟨_, rfl⟩, rfl, rfl⟩

/-! ## The clock cycle, case by case -/

section
variable {s : State} {addr : Cpu → Word}

theorem State.clock_of_stall {k : Byte → Cpu → Cpu} (h : s.cpu.currentRow s.cfg = some (.read addr k))
    (hr : s.devices.cpu.lines.rdy = false) : s.clock = s.devices.stallCycle := by
  rw [State.clock, h]
  exact if_neg (by simp [hr])

theorem State.clock_of_read {k : Byte → Cpu → Cpu} (h : s.cpu.currentRow s.cfg = some (.read addr k))
    (hr : s.devices.cpu.lines.rdy = true) : s.clock = (s.devices.performRead addr k none).finish := by
  rw [State.clock, h]
  exact if_pos hr

theorem State.clock_of_write {val : Cpu → Byte} {k : Cpu → Cpu} (h : s.cpu.currentRow s.cfg = some (.write addr val k)) :
    s.clock = (s.devices.performWrite addr val k).finish := by
  rw [State.clock, h]

end

/-- A clock cycle ends with the housekeeping of lines that its row, if it ran, left the cycle counter of. -/
theorem State.clock_lines {s : State} {r : Row} (h : s.cpu.currentRow s.cfg = some r) :
    ∃ l : Lines, s.clock.cpu.lines = l.housekeep ∧ l.cycle = s.cpu.lines.cycle := by
  have keeps := keepsLines_of_currentRow h
  cases r with
  | read addr k =>
    cases hr : s.devices.cpu.lines.rdy with
    | false => exact ⟨s.devices.cpu.lines, by rw [State.clock_of_stall h hr]; rfl, by simp⟩
    | true =>
      refine ⟨(s.devices.performRead addr k none).cpu.lines, by rw [State.clock_of_read h hr]; rfl, ?_⟩
      refine (keeps.cycle (c := (s.devices.busRead (addr s.devices.cpu)).2.cpu.nextRow) ⟨_, rfl⟩).trans ?_
      simp
  | write addr val k =>
    refine ⟨(s.devices.performWrite addr val k).cpu.lines, by rw [State.clock_of_write h]; rfl, ?_⟩
    refine (keeps.cycle (c := (s.devices.busWrite (addr s.devices.cpu) (val s.devices.cpu)).cpu.nextRow) rfl).trans ?_
    simp

/-! ## A fetch from RAM -/

/-- The banking and RAM of `t` are those of `s`. -/
structure State.SameBank (s t : State) : Prop where
  cfg : t.cfg = s.cfg
  port : t.port = s.port
  cart : t.cart = s.cart
  ram : t.ram = s.ram

section
variable {s t : State} (h : s.SameBank t)
include h

theorem State.SameBank.bankLines : t.bankLines = s.bankLines := by
  rw [State.bankLines, State.bankLines, h.port, h.cart]

theorem State.SameBank.portAt (a : Word) : t.portAt a = s.portAt a := by rw [State.portAt, State.portAt, h.cfg]

theorem State.SameBank.peekSource (a : Word) : t.peekSource a = s.peekSource a := by
  rw [State.peekSource, State.peekSource, h.cfg, h.bankLines]

theorem State.SameBank.busRead {a : Word} (hp : s.portAt a = false) (hs : s.peekSource a = .ram) :
    t.busRead a = (s.ram.read a.toNat, t) := by
  rw [State.busRead_of_ram (by rw [h.portAt, hp]) (by rw [h.peekSource, hs]), h.ram]

end

/-- No fetch of the VIC-II switches the cartridge (R79). -/
def State.SteadyCart (s : State) : Prop := s.cart.switching = false ∨ s.bankLines.ultimax = false

theorem State.SteadyCart.of_sameBank {s t : State} (h : s.SteadyCart) (ht : s.SameBank t) : t.SteadyCart := by
  rw [State.SteadyCart, ht.cart, ht.bankLines]; exact h

theorem State.SameBank.trans {s t u : State} (h : s.SameBank t) (h' : t.SameBank u) : s.SameBank u :=
  ⟨h'.cfg.trans h.cfg, h'.port.trans h.port, h'.cart.trans h.cart, h'.ram.trans h.ram⟩

theorem State.SteadyCart.devices {s : State} (h : s.SteadyCart) : s.SameBank s.devices :=
  ⟨by simp, by simp, s.devices_cart_of h, by simp⟩

theorem State.SteadyCart.readLoop {s : State} (h : s.SteadyCart) (n : Nat) : s.SameBank (s.readLoop n) := by
  induction n generalizing s with
  | zero => exact h.devices
  | succ n ih =>
    rw [State.readLoop]
    split
    · exact h.devices
    · have stall : s.SameBank s.devices.stallCycle := h.devices.trans ⟨by simp, by simp, by simp [State.stallCycle], by simp⟩
      exact stall.trans (ih (h.of_sameBank stall))

theorem State.SteadyCart.readSlot {s : State} (h : s.SteadyCart) : s.SameBank s.readSlot := h.readLoop 66

/-- A read from RAM after its stalls. -/
theorem State.SteadyCart.nextRead {s : State} (h : s.SteadyCart) {a : Word} (hp : s.portAt a = false)
    (hs : s.peekSource a = .ram) : s.nextRead a = s.ram.read a.toNat := by
  rw [State.nextRead, h.readSlot.busRead hp hs]

/-- A row that reads RAM at PC leaves the banking and RAM. -/
theorem State.SteadyCart.runRow {s : State} (h : s.SteadyCart) (k : Byte → Cpu → Cpu) (hp : s.portAt s.cpu.pc = false)
    (hs : s.peekSource s.cpu.pc = .ram) : s.SameBank (s.runRow (readRow (·.pc) k) none) := by
  have read : s.readSlot.busRead s.readSlot.cpu.pc = (s.ram.read s.cpu.pc.toNat, s.readSlot) := by
    rw [State.readSlot_cpu_pc]; exact h.readSlot.busRead hp hs
  have row : s.SameBank (s.readSlot.performRead (·.pc) k none) := by
    rw [State.performRead, read]; exact h.readSlot.trans ⟨rfl, rfl, rfl, rfl⟩
  exact row.trans ⟨rfl, rfl, rfl, rfl⟩

/-- Where the three bytes at PC are in RAM, the fetch cycles read them. -/
theorem State.SteadyCart.fetchBytes {s : State} (h : s.SteadyCart)
    (hr : ∀ k < 3, s.portAt (s.cpu.pc + BitVec.ofNat 16 k) = false ∧ s.peekSource (s.cpu.pc + BitVec.ofNat 16 k) = .ram) :
    s.fetchBytes = [s.ram.read s.cpu.pc.toNat, s.ram.read (s.cpu.pc + 1).toNat, s.ram.read (s.cpu.pc + 2).toNat] := by
  obtain ⟨p0, r0⟩ : s.portAt s.cpu.pc = false ∧ s.peekSource s.cpu.pc = .ram := by simpa using hr 0 (by decide)
  obtain ⟨p1, r1⟩ : s.portAt (s.cpu.pc + 1) = false ∧ s.peekSource (s.cpu.pc + 1) = .ram := hr 1 (by decide)
  obtain ⟨p2, r2⟩ : s.portAt (s.cpu.pc + 2) = false ∧ s.peekSource (s.cpu.pc + 2) = .ram := hr 2 (by decide)
  have bank1 : s.SameBank (s.runRow fetchRow none) := h.runRow _ p0 r0
  have pc1 : (s.runRow fetchRow none).cpu.pc = s.cpu.pc + 1 := by simp [fetchRow]
  have bank2 : s.SameBank ((s.runRow fetchRow none).runRow opLoRow none) := by
    refine bank1.trans ((h.of_sameBank bank1).runRow _ ?_ ?_)
    · rw [pc1, bank1.portAt]; exact p1
    · rw [pc1, bank1.peekSource]; exact r1
  have pc2 : ((s.runRow fetchRow none).runRow opLoRow none).cpu.pc = s.cpu.pc + 2 := by
    simp [fetchRow, opLoRow, BitVec.add_assoc]
  have byte1 : (s.runRow fetchRow none).nextRead (s.cpu.pc + 1) = s.ram.read (s.cpu.pc + 1).toNat := by
    rw [(h.of_sameBank bank1).nextRead ((bank1.portAt _).trans p1) ((bank1.peekSource _).trans r1), bank1.ram]
  have byte2 : ((s.runRow fetchRow none).runRow opLoRow none).nextRead (s.cpu.pc + 2) =
      s.ram.read (s.cpu.pc + 2).toNat := by
    rw [(h.of_sameBank bank2).nextRead ((bank2.portAt _).trans p2) ((bank2.peekSource _).trans r2), bank2.ram]
  rw [State.fetchBytes, h.nextRead p0 r0, pc1, pc2, byte1, byte2]

theorem step_reset {s : State} {k : ResetKind} (h : s.inputs.resetReq = some k) : step s = .next (s.doReset k) := by
  rw [step, h]

end Sys2Proof.Machine

namespace Sys2Proof

open Machine

/-- Settles O8. -/
theorem stepPriority : Obligations.StepPriority :=
  ⟨fun _ k h => ⟨_, step_reset h, rfl, by cases k <;> rfl, rfl⟩, fun _ hr hm hn => step_nmi hr hm hn,
    fun _ hr hm hn hi => step_irq hr hm hn hi⟩

/-- Settles O9. -/
theorem stepRunsDecoded : Obligations.StepRunsDecoded := fun _ _ _ hr hm hn hi hd =>
  State.Fetches.step_eq ⟨hr, hm, hn, hi, hd⟩

/-- Settles O10. -/
theorem programInRam : Obligations.ProgramInRam := by
  intro s i rest hr hm hn hi steady ram hd
  rw [← State.SteadyCart.fetchBytes steady ram] at hd
  exact State.Fetches.step_eq ⟨hr, hm, hn, hi, hd⟩

/-- Settles O18. -/
theorem housekeepingEveryCycle : Obligations.HousekeepingEveryCycle := by
  refine ⟨fun s r h => ?_, fun l src => ⟨rfl, ?_, rfl⟩⟩
  · obtain ⟨l, lines, cycle⟩ := State.clock_lines h
    dsimp only
    rw [lines, ← cycle]
    exact ⟨rfl, rfl, rfl⟩
  · rw [Bool.eq_iff_iff]
    exact bne_iff_ne.trans decide_eq_true_iff.symm

/-- Settles O19. -/
theorem rdyStallsReadsOnly : Obligations.RdyStallsReadsOnly := by
  refine ⟨fun s addr k h hr => ?_, fun s addr val k h => ?_⟩
  · obtain ⟨cia1, cia2, vic, drive⟩ := State.finish_devices
      ({ s.devices with cpu := { s.devices.cpu with stalled := s.devices.cpu.stalled || s.devices.cpu.mip != .fetch } })
    dsimp only
    rw [State.clock_of_stall h hr]
    refine ⟨?_, ?_, ?_, ?_, ?_, ?_, ?_, ?_, ?_, ?_, ?_, ?_, ?_, ?_, ?_, rfl, cia1, cia2, ?_, ?_⟩
    case refine_16 => exact vic.trans (by simp)
    case refine_17 => exact drive.trans (by simp [State.iecPulls])
    all_goals simp [State.stallCycle, Cpu.regs]
  · obtain ⟨cia1, cia2, vic, drive⟩ := State.finish_devices (s.devices.performWrite addr val k)
    dsimp only
    rw [State.clock_of_write h]
    exact ⟨rfl, rfl, rfl, rfl, rfl, cia1, cia2, vic.trans (by simp [State.performWrite]),
      drive.trans (by simp [State.performWrite, State.iecPulls])⟩

end Sys2Proof
end

section
/-! Reset and power-on (70_reset_and_hazards.md R540 to R542; 10_state.md R45; 60_exceptions.md R465, R499, R533). -/

namespace Sys2Proof.Machine

/-! ## The CPU's table -/

theorem Cpu.doReset_spec (k : ResetKind) (r : ResetRegs) (pc : Word) (c : Cpu) : CpuReset k r c (c.doReset k r pc) pc := by
  cases k <;> exact ⟨rfl, ⟨rfl, rfl⟩, ⟨rfl, rfl, rfl, rfl⟩, rfl, ⟨rfl, rfl⟩, rfl, rfl, ⟨rfl, rfl, rfl⟩, rfl, ⟨rfl, rfl⟩⟩

/-! ## The reset vector does not depend on the CPU -/

theorem peekSrc_vector (unmapped : Bool) (b : BankLines) : peekSrc unmapped b 15 ≠ .io := by
  unfold peekSrc
  split
  · simp [peekUltimax]
  · simp only [peekNormal]
    cases b.hiram <;> simp

/-- Outside the I/O page and the port an access does not see the CPU. -/
theorem State.spyPeek_with_cpu (s : State) (c : Cpu) {a : Word} (hp : s.portAt a = false) (hs : s.peekSource a ≠ .io) :
    State.spyPeek a { s with cpu := c } = s.spyPeek a := by
  have port : State.portAt { s with cpu := c } a = false := hp
  have source : State.peekSource { s with cpu := c } a = s.peekSource a := rfl
  rw [State.spyPeek, State.spyPeek, State.busRead, State.busRead, port, hp, if_neg Bool.false_ne_true,
    if_neg Bool.false_ne_true, source]
  cases h : s.peekSource a with
  | io => exact absurd h hs
  | ram | basic | char | kernal | crtLo | crtHi | unmapped => rfl

theorem State.portAt_eq_false (s : State) {a : Word} (h : 2 ≤ a.toNat) : s.portAt a = false := by
  simp only [State.portAt, decide_eq_false (Nat.not_lt.2 h), Bool.and_false]

/-- The vector `$FFFC` as any CPU reads it. -/
theorem State.vector_with_cpu (s : State) (c : Cpu) :
    State.spyPeek16 0xFFFC { s with cpu := c } = s.spyPeek16 0xFFFC := by
  have low : State.spyPeek 0xFFFC { s with cpu := c } = s.spyPeek 0xFFFC :=
    s.spyPeek_with_cpu c (s.portAt_eq_false (by decide)) (peekSrc_vector _ _)
  have high : State.spyPeek 0xFFFD { s with cpu := c } = s.spyPeek 0xFFFD :=
    s.spyPeek_with_cpu c (s.portAt_eq_false (by decide)) (peekSrc_vector _ _)
  exact congrArg₂ cat high low

/-- The CPU after a reset, with PC at the vector that the reset state reads. -/
theorem State.doReset_cpu (k : ResetKind) (s : State) :
    (s.doReset k).cpu = s.cpu.doReset k s.cfg.resetRegs ((s.doReset k).spyPeek16 0xFFFC) :=
  congrArg (Cpu.doReset k s.cfg.resetRegs · s.cpu) (State.vector_with_cpu (s.resetDevices k) _).symm

theorem State.doReset_cpuReset (k : ResetKind) (s : State) :
    CpuReset k s.cfg.resetRegs s.cpu (s.doReset k).cpu ((s.doReset k).spyPeek16 0xFFFC) := by
  rw [State.doReset_cpu]; exact Cpu.doReset_spec _ _ _ _

/-! ## Devices -/

/-- After a reset the port's lines are inputs, which are pulled up. -/
theorem ProcPort.line_reset (k : Nat) : ProcPort.reset.line k = true := by simp [ProcPort.line, ProcPort.reset]

theorem State.bankLines_doReset (k : ResetKind) (s : State) : (s.doReset k).bankLines =
    { exrom := s.cart.exrom, game := s.cart.game, charen := true, hiram := true, loram := true } := by
  have port : (s.doReset k).port = ProcPort.reset := rfl
  rw [State.bankLines, port, ProcPort.line_reset, ProcPort.line_reset, ProcPort.line_reset]
  rfl

/-- With the control registers clear a write of the tenths reaches the time, not the alarm, and starts the clock. -/
theorem Cia.doReset_write_tenths (cfg : Config) (c : Cia) (v : Byte) :
    (c.doReset.write cfg 8 v).tod.stopped = false := by
  simp [Cia.write, Cia.doReset, Tod.write, show Cia.reset.crb = 0#8 from rfl]

theorem Vic.irr_reset : Vic.reset.irr = 0 := by decide

end Sys2Proof.Machine

namespace Sys2Proof

open Machine

/-- Settles O5. -/
theorem resetTable : Obligations.ResetTable := by
  refine ⟨fun k s => ?_, fun ram colorRam driveRam s => ⟨fun h => ?_, fun h => ?_⟩⟩
  · dsimp only
    rw [State.bankLines_doReset]
    exact ⟨s.doReset_cpuReset k, rfl, rfl, rfl, rfl, rfl, rfl, rfl, rfl, rfl, rfl, rfl, rfl⟩
  · refine ⟨_, by rw [State.powerOn, if_pos h], ?_, rfl, rfl, rfl⟩
    exact State.doReset_cpuReset .hard
      { s with ram := ram, colorRam := colorRam, drive := { s.drive with ram := driveRam } }
  · rw [State.powerOn, if_neg (by simp [h])]

/-- Settles O6. -/
theorem resetDevices : Obligations.ResetDevices := by
  intro k s
  refine ⟨?_, fun h => ?_, fun r _ => ⟨rfl, rfl⟩, Vic.irr_reset, rfl, rfl, rfl, rfl, rfl, rfl, rfl, rfl, rfl, ?_, rfl, rfl, rfl, rfl, ?_,
    Cpu.doReset_spec _ _ _ _, fun r => ⟨rfl, rfl⟩, rfl, rfl, rfl, rfl, rfl, rfl, rfl, rfl, rfl, rfl, ?_⟩
  · simp only [List.forall_mem_cons]
    refine ⟨?_, ?_, List.forall_mem_nil _⟩ <;>
      exact ⟨rfl, rfl, rfl, rfl, rfl, rfl, rfl, rfl, rfl, rfl, rfl, rfl, rfl, rfl, rfl, rfl, rfl, rfl, rfl, rfl,
        Cia.doReset_write_tenths _ _⟩
  · show vicBankOf (mixBits 0 0 s.cia2.extA) = 0
    rw [h]
    rfl
  · exact fun p hp => (List.eq_of_mem_replicate hp) ▸ rfl
  · cases k <;> rfl
  · intro ram colorRam driveRam u hu
    rw [State.powerOn] at hu
    split at hu
    · cases hu; rfl
    · cases hu

/-- Settles O7: the second reset sees another CPU, and the vector does not depend on it. -/
theorem hardResetTwice : Obligations.HardResetTwice := fun s =>
  congrArg (fun pc : Word =>
    ({ s.resetDevices .hard with cpu := s.hardReset.cpu.doReset .hard s.cfg.resetRegs pc } : State))
    (State.vector_with_cpu (s.resetDevices .hard) s.hardReset.cpu)

/-- Settles O13. -/
theorem invariantsAtReset : Obligations.InvariantsAtReset := by
  refine ⟨⟨by decide, by decide, fun _ => (by decide : (0#8).toNat < 16)⟩,
    ⟨by decide, by decide, List.forall_mem_nil _, by decide, by decide, by decide, by decide, rfl⟩,
    ⟨by decide, by decide, by decide, rfl, fun t ht => ?_, by decide, .inl rfl, rfl⟩, rfl, rfl, by decide⟩
  cases List.eq_of_mem_replicate ht
  exact ⟨rfl, by decide⟩

end Sys2Proof
end

section
/-! The CIAs (60_exceptions.md section 6): one cycle phase by phase, the acknowledge, the time of day, one-shot mode. -/

namespace Sys2Proof

/-! ## The layout of the pipeline: 38 positions, all different -/

/-- The position with number `i` in `positions`: `CountA` has the numbers 0 to 3, `CountB` 4 to 7, `LoadA` 8 to 10, `LoadB` 11
to 13, `OneShotA` 14, `OneShotB` 15, `SerClk` 16 to 18, `SerLoad` 19 and 20, `SetInt` 21 and 22, `ClearInt` 23, `SetIcr` 24 and
25, `ClearIcr` 26 to 28, `AckIcr` 29 and 30, `ReadIcr` 31 and 32, `TODInt` 33, `PB6Low` 34 and 35, `PB7Low` 36 and 37. -/
def CiaDelayBits.position (b : CiaDelayBits) (i : Nat) : Nat := b.positions.getD i 0

theorem CiaDelayBits.position_lt {cfg : Config} (h : cfg.ciaBitsOk = true) {i : Nat} (hi : i < 38) :
    cfg.ciaDelayBits.position i < 64 := by
  obtain ⟨-, h⟩ := Bool.and_eq_true_iff.1 h
  have hi : i < cfg.ciaDelayBits.positions.length := hi
  rw [CiaDelayBits.position, List.getD_eq_getElem _ _ hi]
  exact of_decide_eq_true (List.all_eq_true.1 h _ (List.getElem_mem hi))

theorem CiaDelayBits.position_inj {cfg : Config} (h : cfg.ciaBitsOk = true) {i j : Nat} (hi : i < 38) (hj : j < 38)
    (e : cfg.ciaDelayBits.position i = cfg.ciaDelayBits.position j) : i = j := by
  obtain ⟨h, -⟩ := Bool.and_eq_true_iff.1 h
  have hi : i < cfg.ciaDelayBits.positions.length := hi
  have hj : j < cfg.ciaDelayBits.positions.length := hj
  rw [CiaDelayBits.position, CiaDelayBits.position, List.getD_eq_getElem _ _ hi, List.getD_eq_getElem _ _ hj] at e
  exact ((of_decide_eq_true h).getElem_inj_iff).1 e

theorem CiaDelayBits.position_not_mem {cfg : Config} (h : cfg.ciaBitsOk = true) {i : Nat} (J : List Nat) (hi : i < 38)
    (hJ : ∀ j ∈ J, j < 38) (hne : i ∉ J) : cfg.ciaDelayBits.position i ∉ J.map cfg.ciaDelayBits.position := by
  intro hq
  obtain ⟨j, hj, e⟩ := List.mem_map.1 hq
  exact hne (CiaDelayBits.position_inj h (hJ j hj) hi e ▸ hj)

end Sys2Proof

namespace Sys2Proof.Machine

/-! ## The phases of a cycle -/

/-- Timer A's tick of the cycle. -/
def Cia.tickA (b : CiaDelayBits) (c : Cia) : Word × Bool :=
  timerTick c.clockA (c.has (b.loadA + 1)) (c.has (b.countA + 3)) (c.has (b.countA + 2)) c.cntEdge c.counterA c.latchA

/-- Whether timer A's tick ends a one-shot count. -/
def Cia.stopsA (b : CiaDelayBits) (c : Cia) : Bool := (c.tickA b).2 && c.oneShot b.oneShotA

/-- The chip before the serial phase. -/
def Cia.clocked (b : CiaDelayBits) (c : Cia) : Cia := (((c.interruptPhase b).timerA b).timerB b).todPhase b

theorem Cia.clocked_counterA (b : CiaDelayBits) (c : Cia) : (c.clocked b).counterA = (c.tickA b).1 := rfl
theorem Cia.clocked_taOut (b : CiaDelayBits) (c : Cia) : (c.clocked b).taOut = (c.tickA b).2 := rfl
theorem Cia.clocked_cra (b : CiaDelayBits) (c : Cia) :
    (c.clocked b).cra = if c.stopsA b then c.cra &&& 0xFE else c.cra := rfl
theorem Cia.clocked_icr (b : CiaDelayBits) (c : Cia) : (c.clocked b).icr = (c.interruptPhase b).icr := rfl

theorem Cia.clocked_todInt (b : CiaDelayBits) (c : Cia) (h : b.todInt < 64) :
    (c.clocked b).has b.todInt = ((c.clocked b).tod.matched && !c.tod.matched) := by
  rw [Cia.has_eq]
  exact (setPipe_bit ..).trans (if_pos ⟨h, rfl⟩)

/-- What the rest of a 6526's cycle does to the chip `t` that the timers and the clock left. -/
structure Cia.Acted (b : CiaDelayBits) (t : Cia) (ser : Bool) (n : Cia) : Prop where
  counterA : n.counterA = t.counterA
  taOut : n.taOut = t.taOut
  tbOut : n.tbOut = t.tbOut
  cra : n.cra = t.cra
  latchA : n.latchA = t.latchA
  feed : n.feed = t.feed
  imr : n.imr = t.imr
  irqOut : n.irqOut = t.irqOut
  tod : n.tod = t.tod
  icrNext : n.icrNext = t.icrNext
  icr : n.icr = t.icr ||| ciaFired t.taOut t.tbOut (t.has b.todInt) ser (t.flagPrev && !t.flagPin)
  /-- The pipeline gains `SerLoad0` and, to pull the line, `SetInt0`. -/
  bit : ∀ p, p ≠ b.serLoad → n.delay.getLsbD p =
    (t.delay.getLsbD p || (decide (p < 64) && decide (b.setInt = p) && (decide (n.enabled ≠ 0#8) && !n.irqOut)))
  keeps : ∀ p, t.delay.getLsbD p = true → n.delay.getLsbD p = true

/-- A transfer starts at once or waits in `SerLoad0`. -/
theorem Cia.serialLoad_eq (b : CiaDelayBits) (c : Cia) : ∃ shift count, ∃ arm : Bool,
    c.serialLoad b = { c with shiftReg := shift, serCount := count,
                              delay := if arm then c.delay ||| pipeBit b.serLoad else c.delay } := by
  unfold Cia.serialLoad
  split_ifs
  · exact ⟨_, _, false, rfl⟩
  · exact ⟨_, _, true, rfl⟩
  · exact ⟨_, _, false, rfl⟩

theorem ite_pipeBit_bit (k p : Nat) (w : BitVec 64) (q : Bool) : (if q then w ||| pipeBit k else w).getLsbD p =
    (w.getLsbD p || (decide (p < 64) && decide (k = p) && q)) := by
  cases q <;> simp [pipeBit_bit]

/-- The serial phase changes the serial register, the SP level and `SerLoad0`. -/
theorem Cia.serialPhase_eq (b : CiaDelayBits) (c : Cia) : ∃ sp shift sdr count, ∃ arm : Bool,
    (c.serialPhase b).1 = { c with sp := sp, shiftReg := shift, sdr := sdr, serCount := count,
                                   delay := if arm then c.delay ||| pipeBit b.serLoad else c.delay } := by
  unfold Cia.serialPhase
  split
  · obtain ⟨shift, count, arm, e⟩ := c.serialLoad_eq b
    unfold Cia.serialOut
    dsimp only
    split
    · rw [e]; exact ⟨_, _, _, _, arm, rfl⟩
    · rw [e]; exact ⟨_, _, _, _, arm, rfl⟩
  · unfold Cia.serialIn
    split_ifs
    · exact ⟨_, _, _, _, false, rfl⟩
    · exact ⟨_, _, _, _, false, rfl⟩
    · exact ⟨_, _, _, _, false, rfl⟩

theorem Cia.pull_eq (k : Nat) (c : Cia) : (if c.enabled ≠ 0#8 && !c.irqOut then c.arm k else c) =
    { c with delay := if decide (c.enabled ≠ 0#8) && !c.irqOut then c.delay ||| pipeBit k else c.delay } := by
  split <;> rfl

/-- The flags are recorded at once on the 6526, and a flag that is enabled arms the line. -/
theorem Cia.raise_mos6526 {cfg : Config} (h : cfg.ciaModel = .mos6526) (fired : Byte) (c : Cia) :
    c.raise cfg fired = { c with icr := c.icr ||| fired, tbFresh := fired.getLsbD 1 && !c.icr.getLsbD 1,
                                 delay := if decide ((c.icr ||| fired) &&& c.imr &&& 0x1F#8 ≠ 0#8) && !c.irqOut
                                   then c.delay ||| pipeBit cfg.ciaDelayBits.setInt else c.delay } := by
  unfold Cia.raise
  rw [h]
  exact Cia.pull_eq _ _

theorem Cia.act_acted {cfg : Config} (h : cfg.ciaModel = .mos6526) (c : Cia) :
    ∃ ser, Cia.Acted cfg.ciaDelayBits (c.clocked cfg.ciaDelayBits) ser (c.act cfg) := by
  obtain ⟨sp, shift, sdr, count, arm, e⟩ := (c.clocked cfg.ciaDelayBits).serialPhase_eq cfg.ciaDelayBits
  refine ⟨((c.clocked cfg.ciaDelayBits).serialPhase cfg.ciaDelayBits).2, ?_⟩
  unfold Cia.act
  dsimp only
  rw [← Cia.clocked, e, Cia.raise_mos6526 h]
  refine ⟨rfl, rfl, rfl, rfl, rfl, rfl, rfl, rfl, rfl, rfl, rfl, fun p hp => ?_, fun p hp => ?_⟩
  · refine (ite_pipeBit_bit ..).trans (congrArg (· || _) ?_)
    simp [ite_pipeBit_bit, Ne.symm hp]
  · refine (ite_pipeBit_bit ..).trans ?_
    simp [ite_pipeBit_bit, hp]

/-! ## The time of day -/

/-- Tenths short of 9 only count. -/
theorem TodTime.tenth_iterate (hours minutes seconds : Byte) (n k : Nat) (h : k + n ≤ 9) :
    TodTime.tenth^[n] ⟨hours, minutes, seconds, BitVec.ofNat 8 k⟩ = ⟨hours, minutes, seconds, BitVec.ofNat 8 (k + n)⟩ := by
  induction n with
  | zero => rfl
  | succ n ih =>
    obtain ⟨j, hj⟩ : ∃ j, k + n = j := ⟨_, rfl⟩
    have hj8 : j ≤ 8 := by omega
    rw [Function.iterate_succ_apply', ih (by omega), ← Nat.add_assoc, hj]
    interval_cases j <;> simp [TodTime.tenth]

/-- Ten tenths pass 9 exactly once. -/
theorem TodTime.tenth_ten (hours minutes seconds tenths : Byte) (h : tenths.toNat ≤ 9) :
    (TodTime.tenth^[10] ⟨hours, minutes, seconds, tenths⟩).tenths = tenths ∧
    (TodTime.tenth^[10] ⟨hours, minutes, seconds, tenths⟩).seconds = (bcdInc60 seconds).1 := by
  obtain ⟨k, hk, rfl⟩ : ∃ k ≤ 9, tenths = BitVec.ofNat 8 k := ⟨tenths.toNat, h, by simp⟩
  obtain ⟨h', m', carry⟩ : ∃ h' m', TodTime.tenth ⟨hours, minutes, seconds, BitVec.ofNat 8 9⟩ =
      ⟨h', m', (bcdInc60 seconds).1, BitVec.ofNat 8 0⟩ := by
    simp [TodTime.tenth]
  have ten : 10 = k + (1 + (9 - k)) := by omega
  rw [ten, Function.iterate_add_apply, Function.iterate_add_apply, TodTime.tenth_iterate _ _ _ _ _ (by omega),
    show k + (9 - k) = 9 by omega, Function.iterate_one, carry, TodTime.tenth_iterate _ _ _ _ _ (by omega), Nat.zero_add]
  exact ⟨rfl, rfl⟩

theorem bcdInc60_valid : ∀ v : Byte, v.toNat % 16 ≤ 9 → v.toNat / 16 ≤ 5 →
    (bcdInc60 v).1.toNat % 16 ≤ 9 ∧ (bcdInc60 v).1.toNat / 16 ≤ 5 ∧
    (bcdInc60 v).1.toNat / 16 * 10 + (bcdInc60 v).1.toNat % 16 = (v.toNat / 16 * 10 + v.toNat % 16 + 1) % 60 := by
  decide

/-! ## The acknowledge -/

/-- The read of the ICR on a 6526 without the timer B bug: flags and masks stay, and the clearing stages are armed. -/
theorem Cia.readIcr_mos6526 {cfg : Config} (h : cfg.ciaModel = .mos6526) (hbug : cfg.ciaTimerBBug = false) (c : Cia) :
    c.readIcr cfg = (c.icr ||| (if c.icr &&& c.imr &&& 0x1F#8 = 0#8 then 0#8 else 0x80#8),
      ((c.arm cfg.ciaDelayBits.readIcr).arm (cfg.ciaDelayBits.clearIcr + 1)).arm cfg.ciaDelayBits.clearInt) := by
  have seen : c.icrSeen cfg = c.icr := by simp [Cia.icrSeen, hbug]
  unfold Cia.readIcr
  rw [seen, h]
  rfl

/-- In the cycle after the read no flag is left and the line is released. -/
theorem Cia.interruptPhase_acknowledged (b : CiaDelayBits) (c : Cia) (hclear : c.has (b.clearIcr + 1) = true)
    (hint : c.has b.clearInt = true) (hnext : c.icrNext = 0) :
    (c.interruptPhase b).icr = 0 ∧ (c.interruptPhase b).irqOut = false := by
  simp only [Cia.interruptPhase, hclear, hint, hnext]
  simp

theorem Cia.readIcr_icrNext (cfg : Config) (c : Cia) : (c.readIcr cfg).2.icrNext = c.icrNext := by
  unfold Cia.readIcr; cases cfg.ciaModel <;> rfl

theorem Cia.read_icrNext (cfg : Config) (ext : Byte) (r : Nat) (c : Cia) : (c.read cfg ext r).2.icrNext = c.icrNext := by
  unfold Cia.read
  split
  case h_14 => exact Cia.readIcr_icrNext cfg c
  all_goals rfl

theorem Cia.write_icrNext (cfg : Config) (r : Nat) (v : Byte) (c : Cia) : (c.write cfg r v).icrNext = c.icrNext := by
  unfold Cia.write
  split
  case h_6 => unfold Cia.writeLatchHiA; dsimp only; split <;> rfl
  case h_8 => unfold Cia.writeLatchHiB; dsimp only; split <;> rfl
  case h_13 => unfold Cia.writeSdr; split <;> rfl
  all_goals rfl

end Sys2Proof.Machine

namespace Sys2Proof

open Machine

/-- Settles O54. -/
theorem todTenTicks : Obligations.TodTenTicks := by
  rintro ⟨hours, minutes, seconds, tenths⟩ ht hlow hhigh
  obtain ⟨kept, carried⟩ := TodTime.tenth_ten hours minutes seconds tenths ht
  dsimp only
  rw [kept, carried]
  exact ⟨rfl, bcdInc60_valid seconds hlow hhigh⟩

/-- Settles O53. -/
theorem icrAcknowledge : Obligations.IcrAcknowledge := by
  refine ⟨fun cfg ext c h6526 hbug hok hnext => ?_, fun cfg ext v r c h6526 hnext => ⟨?_, ?_, ?_⟩⟩
  · have read : c.read cfg ext 13 = c.readIcr cfg := rfl
    rw [read, Cia.readIcr_mos6526 h6526 hbug]
    have hclear : cfg.ciaDelayBits.clearIcr + 1 < 64 := CiaDelayBits.position_lt hok (i := 27) (by decide)
    have hint : cfg.ciaDelayBits.clearInt < 64 := CiaDelayBits.position_lt hok (i := 23) (by decide)
    have htod : cfg.ciaDelayBits.todInt < 64 := CiaDelayBits.position_lt hok (i := 33) (by decide)
    set x := ((c.arm cfg.ciaDelayBits.readIcr).arm (cfg.ciaDelayBits.clearIcr + 1)).arm cfg.ciaDelayBits.clearInt
    obtain ⟨ser, acted⟩ := Cia.act_acted h6526 x
    obtain ⟨cleared, released⟩ := Cia.interruptPhase_acknowledged cfg.ciaDelayBits x
      (by simp [x, hclear]) (by simp [x, hint]) hnext
    have icr : (x.step cfg).icr = ciaFired (x.step cfg).taOut (x.step cfg).tbOut
        ((x.step cfg).tod.matched && !c.tod.matched) ser (c.flagPrev && !c.flagPin) := by
      have icr := acted.icr
      rw [Cia.clocked_icr, cleared, Cia.clocked_todInt _ _ htod, ← acted.taOut, ← acted.tbOut, ← acted.tod] at icr
      exact icr.trans (BitVec.zero_or ..)
    refine ⟨rfl, acted.irqOut.trans released, ?_⟩
    dsimp only
    rw [icr]
    exact ⟨byteOfBits_bit0 .., byteOfBits_bit1 .., byteOfBits_bit2 .., byteOfBits_bit4 ..⟩
  · obtain ⟨ser, acted⟩ := Cia.act_acted h6526 c
    exact acted.icrNext.trans hnext
  · exact (c.read_icrNext cfg ext r).trans hnext
  · exact (c.write_icrNext cfg r v).trans hnext

end Sys2Proof
end

section
/-! Timer A of a CIA in one-shot mode (60_exceptions.md R449, R453, R454): the counting state, the underflow, the interrupt. -/

namespace Sys2Proof

/-! ## Stages by their numbers in `positions` -/

/-- The stages 0 of the seventeen chains. -/
def ciaFirstNumbers : List Nat := [0, 4, 8, 11, 14, 15, 16, 19, 21, 23, 24, 26, 29, 31, 33, 34, 36]

/-- The later stages. -/
def ciaLaterNumbers : List Nat := [1, 2, 3, 5, 6, 7, 9, 10, 12, 13, 17, 18, 20, 22, 25, 27, 28, 30, 32, 35, 37]

theorem CiaDelayBits.laterStages_eq (b : CiaDelayBits) : b.laterStages = ciaLaterNumbers.map b.position := rfl

/-- A later stage is one bit above the stage before it. -/
theorem CiaDelayBits.position_succ (b : CiaDelayBits) (i : Nat) (hi : i + 1 ∈ ciaLaterNumbers) :
    b.position (i + 1) = b.position i + 1 := by
  have e : ciaLaterNumbers.map b.position = ciaLaterNumbers.map fun j => b.position (j - 1) + 1 := rfl
  exact List.map_inj_left.1 e _ hi

end Sys2Proof

namespace Sys2Proof.Machine

/-- A bit of stage 0 after the update is the feed's. -/
theorem Cia.shiftPipe_first {cfg : Config} (h : cfg.ciaBitsOk = true) (c : Cia) {i : Nat} (hi : i ∈ ciaFirstNumbers) :
    (c.shiftPipe cfg.ciaDelayBits).delay.getLsbD (cfg.ciaDelayBits.position i) =
      c.feed.getLsbD (cfg.ciaDelayBits.position i) := by
  have notLater : cfg.ciaDelayBits.position i ∉ cfg.ciaDelayBits.laterStages := by
    rw [CiaDelayBits.laterStages_eq]
    exact CiaDelayBits.position_not_mem h ciaLaterNumbers ((by decide : ∀ j ∈ ciaFirstNumbers, j < 38) i hi)
      (by decide) ((by decide : ∀ j ∈ ciaFirstNumbers, j ∉ ciaLaterNumbers) i hi)
  rw [Cia.shiftPipe_delay, BitVec.getLsbD_or, BitVec.getLsbD_and, ciaDelayMask_bit]
  simp [notLater]

/-- A bit of a later stage after the update is that of the stage before it, or the feed's. -/
theorem Cia.shiftPipe_later {cfg : Config} (h : cfg.ciaBitsOk = true) (c : Cia) {i : Nat} (hi : i + 1 ∈ ciaLaterNumbers) :
    (c.shiftPipe cfg.ciaDelayBits).delay.getLsbD (cfg.ciaDelayBits.position (i + 1)) =
      (c.delay.getLsbD (cfg.ciaDelayBits.position i) || c.feed.getLsbD (cfg.ciaDelayBits.position (i + 1))) := by
  have lt : cfg.ciaDelayBits.position (i + 1) < 64 :=
    CiaDelayBits.position_lt h ((by decide : ∀ j ∈ ciaLaterNumbers, j < 38) _ hi)
  have later : cfg.ciaDelayBits.position (i + 1) ∈ cfg.ciaDelayBits.laterStages :=
    (CiaDelayBits.laterStages_eq _).symm ▸ List.mem_map_of_mem hi
  rw [CiaDelayBits.position_succ _ i hi] at lt later ⊢
  rw [Cia.shiftPipe_bit]
  simp [lt, later]

/-! ## What a cycle arms while nothing but timer A acts -/

/-- Stages that stay clear while timer B stands and nothing is acknowledged: the chains of timer B's count and load,
`ClearInt`, `SetIcr`, `ClearIcr` and `AckIcr`. -/
def ciaSilentNumbers : List Nat := [4, 5, 6, 7, 11, 12, 23, 24, 25, 26, 27, 29, 30]

/-- Those stages are clear, and the feed keeps at most timer A's count and one-shot chains going. -/
structure Cia.Silent (b : CiaDelayBits) (c : Cia) : Prop where
  clear : ∀ i ∈ ciaSilentNumbers, c.delay.getLsbD (b.position i) = false
  fed : ∀ p, c.feed.getLsbD p = true → p ∈ [0, 14].map b.position

/-- A timer that neither loads nor counts does not underflow. -/
theorem timerTick_idle (clock count2 pulse : Bool) (counter latch : Word) :
    (timerTick clock false false count2 pulse counter latch).2 = false := by
  cases clock <;> simp [timerTick]

theorem underflowPipe_bit {count load low p : Nat} {clock under stop : Bool} {delay : BitVec 64}
    (h : (underflowPipe count load low clock under stop delay).getLsbD p = true) :
    delay.getLsbD p = true ∨ under = true ∧ (p = load ∨ p = low) := by
  have h : (if under && clock then (if under then delay ||| pipeBit low else delay) ||| pipeBit load
      else if under then delay ||| pipeBit low else delay).getLsbD p = true := by
    unfold underflowPipe at h
    cases stop
    · exact h
    · exact (Bool.and_eq_true_iff.1 ((BitVec.getLsbD_and ..).symm.trans h)).1
  rw [ite_pipeBit_bit, ite_pipeBit_bit] at h
  simp only [Bool.or_eq_true, Bool.and_eq_true, decide_eq_true_eq] at h
  obtain (h | ⟨⟨-, e⟩, u⟩) | ⟨⟨-, e⟩, u, -⟩ := h
  · exact .inl h
  · exact .inr ⟨u, .inr e.symm⟩
  · exact .inr ⟨u, .inl e.symm⟩

/-- Without an underflow timer A leaves the pipeline as it is. -/
theorem Cia.timerA_delay (b : CiaDelayBits) (c : Cia) (h : (c.timerA b).taOut = false) : (c.timerA b).delay = c.delay := by
  have h : (timerTick c.clockA (c.has (b.loadA + 1)) (c.has (b.countA + 3)) (c.has (b.countA + 2)) c.cntEdge c.counterA
    c.latchA).2 = false := h
  simp [-Cia.has_eq, Cia.timerA, underflowPipe, h]

theorem Cia.timerB_delay (b : CiaDelayBits) (c : Cia) (h : (c.timerB b).tbOut = false) : (c.timerB b).delay = c.delay := by
  have h : (timerTick c.clockB (c.has (b.loadB + 1)) (c.has (b.countB + 3)) (c.has (b.countB + 2)) (c.pulseSourceB c.taOut)
    c.counterB c.latchB).2 = false := h
  simp [-Cia.has_eq, Cia.timerB, underflowPipe, h]

theorem Cia.timerA_bit (b : CiaDelayBits) (c : Cia) {p : Nat} (h : (c.timerA b).delay.getLsbD p = true) :
    c.delay.getLsbD p = true ∨ (c.timerA b).taOut = true ∧ p ∈ [8, 16, 34].map b.position := by
  have h : (if _ then _ ||| pipeBit b.serClk else _ : BitVec 64).getLsbD p = true := h
  rw [ite_pipeBit_bit, Bool.or_eq_true] at h
  obtain h | h := h
  · obtain h | ⟨u, rfl | rfl⟩ := underflowPipe_bit h
    · exact .inl h
    · exact .inr ⟨u, List.mem_map_of_mem (by decide : 8 ∈ [8, 16, 34])⟩
    · exact .inr ⟨u, List.mem_map_of_mem (by decide : 34 ∈ [8, 16, 34])⟩
  · simp only [Bool.and_eq_true, decide_eq_true_eq] at h
    obtain ⟨⟨-, rfl⟩, u, -⟩ := h
    exact .inr ⟨u, List.mem_map_of_mem (by decide : 16 ∈ [8, 16, 34])⟩

/-- Nothing is acknowledged. -/
theorem Cia.Silent.not_acknowledged {cfg : Config} {c : Cia} (silent : c.Silent cfg.ciaDelayBits) :
    (c.interruptPhase cfg.ciaDelayBits).icr = c.icr ∧
    (c.interruptPhase cfg.ciaDelayBits).irqOut = (c.irqOut || c.has (cfg.ciaDelayBits.setInt + 1)) := by
  have set : c.has (cfg.ciaDelayBits.setIcr + 1) = false := (Cia.has_eq ..).trans (silent.clear 25 (by decide))
  have clear : c.has (cfg.ciaDelayBits.clearIcr + 1) = false := (Cia.has_eq ..).trans (silent.clear 27 (by decide))
  have ack : c.has (cfg.ciaDelayBits.ackIcr + 1) = false := (Cia.has_eq ..).trans (silent.clear 30 (by decide))
  have int : c.has cfg.ciaDelayBits.clearInt = false := (Cia.has_eq ..).trans (silent.clear 23 (by decide))
  simp only [Cia.interruptPhase, set, clear, ack, int]
  simp

theorem Cia.Silent.step_irqOut {cfg : Config} (h6526 : cfg.ciaModel = .mos6526) {c : Cia}
    (silent : c.Silent cfg.ciaDelayBits) :
    (c.step cfg).irqOut = (c.irqOut || c.delay.getLsbD (cfg.ciaDelayBits.position 22)) := by
  obtain ⟨ser, acted⟩ := Cia.act_acted h6526 c
  exact acted.irqOut.trans (silent.not_acknowledged.2.trans (congrArg (c.irqOut || ·) (Cia.has_eq ..)))

theorem Cia.Silent.step_icr {cfg : Config} (h6526 : cfg.ciaModel = .mos6526) {c : Cia}
    (silent : c.Silent cfg.ciaDelayBits) : (c.step cfg).icr.getLsbD 0 = (c.icr.getLsbD 0 || (c.step cfg).taOut) := by
  obtain ⟨ser, acted⟩ := Cia.act_acted h6526 c
  have icr : (c.step cfg).icr = _ := acted.icr
  rw [icr, Cia.clocked_icr, silent.not_acknowledged.1, BitVec.getLsbD_or, ciaFired, byteOfBits_bit0, ← acted.taOut]
  rfl

section
variable {cfg : Config} (h : cfg.ciaBitsOk = true) {c : Cia} (silent : c.Silent cfg.ciaDelayBits)
include h silent

/-- Timer B does not underflow. -/
theorem Cia.Silent.tbOut : (c.clocked cfg.ciaDelayBits).tbOut = false := by
  have clear (i) (hi : i ∈ [6, 7, 12]) :
      ((c.interruptPhase cfg.ciaDelayBits).timerA cfg.ciaDelayBits).has (cfg.ciaDelayBits.position i) = false := by
    rw [Cia.has_eq]
    refine Bool.eq_false_iff.2 fun e => ?_
    obtain e | ⟨-, e⟩ := Cia.timerA_bit _ _ e
    · exact Bool.false_ne_true ((silent.clear i ((by decide : ∀ j ∈ [6, 7, 12], j ∈ ciaSilentNumbers) i hi)).symm.trans e)
    · exact CiaDelayBits.position_not_mem h [8, 16, 34] ((by decide : ∀ j ∈ [6, 7, 12], j < 38) i hi) (by decide)
        ((by decide : ∀ j ∈ [6, 7, 12], j ∉ [8, 16, 34]) i hi) e
  have load : Cia.has (cfg.ciaDelayBits.loadB + 1) _ = false := clear 12 (by decide)
  have count : Cia.has (cfg.ciaDelayBits.countB + 3) _ = false := clear 7 (by decide)
  show (timerTick _ (Cia.has _ _) (Cia.has _ _) (Cia.has _ _) _ _ _).2 = false
  rw [load, count, timerTick_idle]

/-- What a cycle may arm: of timer A's underflow `LoadA0`, `SerClk0` and `PB6Low0`, and `TODInt0`. -/
theorem Cia.Silent.clocked_bit {p : Nat} (hp : (c.clocked cfg.ciaDelayBits).delay.getLsbD p = true) :
    c.delay.getLsbD p = true ∨ (c.clocked cfg.ciaDelayBits).taOut = true ∧ p ∈ [8, 16, 34].map cfg.ciaDelayBits.position ∨
      p ∈ [33].map cfg.ciaDelayBits.position := by
  have hp := (setPipe_bit ..).symm.trans hp
  split at hp
  case isTrue e => exact .inr (.inr (List.mem_singleton.2 e.2.symm))
  case isFalse =>
    obtain hp | ⟨u, -⟩ := underflowPipe_bit hp
    · obtain hp | hp := Cia.timerA_bit _ _ hp
      · exact .inl hp
      · exact .inr (.inl hp)
    · exact absurd (u.symm.trans (silent.tbOut h)) Bool.noConfusion

theorem Cia.Silent.clocked_feed : (c.clocked cfg.ciaDelayBits).feed =
    if c.stopsA cfg.ciaDelayBits then c.feed &&& ~~~pipeBit cfg.ciaDelayBits.countA else c.feed := by
  exact if_neg fun e => Bool.noConfusion ((Bool.and_eq_true_iff.1 e).1.symm.trans (silent.tbOut h))

theorem Cia.Silent.clocked_delay (hta : (c.clocked cfg.ciaDelayBits).taOut = false) : ∃ q,
    (c.clocked cfg.ciaDelayBits).delay = setPipe cfg.ciaDelayBits.todInt q c.delay := by
  refine ⟨_, congrArg (setPipe _ _) ((Cia.timerB_delay _ _ (silent.tbOut h)).trans (Cia.timerA_delay _ _ hta))⟩

variable (h6526 : cfg.ciaModel = .mos6526)
include h6526

theorem Cia.Silent.step_feed : (c.step cfg).feed =
    if c.stopsA cfg.ciaDelayBits then c.feed &&& ~~~pipeBit cfg.ciaDelayBits.countA else c.feed := by
  obtain ⟨ser, acted⟩ := Cia.act_acted h6526 c
  exact acted.feed.trans (silent.clocked_feed h)

theorem Cia.Silent.step_fed {p : Nat} (hp : (c.step cfg).feed.getLsbD p = true) :
    p ∈ [0, 14].map cfg.ciaDelayBits.position := by
  rw [silent.step_feed h h6526] at hp
  split at hp
  · rw [BitVec.getLsbD_and, Bool.and_eq_true] at hp
    exact silent.fed p hp.1
  · exact silent.fed p hp

/-- After a cycle a stage 0 that the feed does not keep going is clear. -/
theorem Cia.Silent.step_first {i : Nat} (hi : i ∈ ciaFirstNumbers) (hne : i ∉ [0, 14]) :
    (c.step cfg).delay.getLsbD (cfg.ciaDelayBits.position i) = false :=
  (Cia.shiftPipe_first h _ hi).trans (Bool.eq_false_iff.2 fun e => CiaDelayBits.position_not_mem h [0, 14]
    ((by decide : ∀ j ∈ ciaFirstNumbers, j < 38) i hi) (by decide) hne (silent.step_fed h h6526 e))

/-- A stage that the cycle cannot arm stays clear until the pipeline moves. -/
theorem Cia.Silent.clocked_clear {i : Nat} (hi : i < 38) (hne : i ∉ [16, 33, 34])
    (hload : i = 8 → (c.step cfg).taOut = false) (hc : c.delay.getLsbD (cfg.ciaDelayBits.position i) = false) :
    (c.clocked cfg.ciaDelayBits).delay.getLsbD (cfg.ciaDelayBits.position i) = false := by
  obtain ⟨ser, acted⟩ := Cia.act_acted h6526 c
  refine Bool.eq_false_iff.2 fun e => ?_
  obtain e | ⟨u, e⟩ | e := silent.clocked_bit h e
  · exact Bool.false_ne_true (hc.symm.trans e)
  · refine CiaDelayBits.position_not_mem h [8, 16, 34] hi (by decide) (fun hm => ?_) e
    have i8 : i ≠ 8 := fun i8 => Bool.false_ne_true ((hload i8).symm.trans (acted.taOut.trans u))
    simp_all
  · exact CiaDelayBits.position_not_mem h [33] hi (by decide) (fun hm => hne (by simp_all)) e

/-- After a cycle a later stage is clear if the one before it was and the cycle could not arm that one. -/
theorem Cia.Silent.step_later {i : Nat} (hi : i + 1 ∈ ciaLaterNumbers) (hne : i ∉ [16, 19, 21, 33, 34])
    (hload : i = 8 → (c.step cfg).taOut = false) (hc : c.delay.getLsbD (cfg.ciaDelayBits.position i) = false) :
    (c.step cfg).delay.getLsbD (cfg.ciaDelayBits.position (i + 1)) = false := by
  obtain ⟨ser, acted⟩ := Cia.act_acted h6526 c
  have hi38 : i < 38 := Nat.lt_of_succ_lt ((by decide : ∀ j ∈ ciaLaterNumbers, j < 38) _ hi)
  have act : (c.act cfg).delay.getLsbD (cfg.ciaDelayBits.position i) = false := by
    have serLoad : cfg.ciaDelayBits.position i ∉ [19].map cfg.ciaDelayBits.position :=
      CiaDelayBits.position_not_mem h [19] hi38 (by decide) (fun hm => hne (by simp_all))
    have setInt : cfg.ciaDelayBits.position i ∉ [21].map cfg.ciaDelayBits.position :=
      CiaDelayBits.position_not_mem h [21] hi38 (by decide) (fun hm => hne (by simp_all))
    rw [acted.bit _ fun e => serLoad (List.mem_singleton.2 e),
      silent.clocked_clear h h6526 hi38 (fun hm => hne (by simp_all)) hload hc,
      decide_eq_false (p := cfg.ciaDelayBits.setInt = _) fun e => setInt (List.mem_singleton.2 e.symm)]
    simp
  refine (Cia.shiftPipe_later h _ hi).trans ?_
  rw [act, Bool.false_or]
  exact Bool.eq_false_iff.2 fun e => CiaDelayBits.position_not_mem h [0, 14]
    ((by decide : ∀ j ∈ ciaLaterNumbers, j < 38) _ hi) (by decide)
    ((by decide : ∀ j ∈ ciaLaterNumbers, j ∉ [0, 14]) _ hi) (silent.step_fed h h6526 e)

theorem Cia.Silent.step : (c.step cfg).Silent cfg.ciaDelayBits := by
  refine ⟨fun i hi => ?_, fun p hp => silent.step_fed h h6526 hp⟩
  have stage : ∀ i ∈ ciaSilentNumbers, i ∈ ciaFirstNumbers ∨ i ∈ ciaLaterNumbers ∧ i - 1 ∈ ciaSilentNumbers := by decide
  obtain start | ⟨later, before⟩ := stage i hi
  · exact silent.step_first h h6526 start ((by decide : ∀ j ∈ ciaSilentNumbers, j ∉ [0, 14]) i hi)
  · obtain ⟨j, rfl⟩ : ∃ j, i = j + 1 := ⟨i - 1, by have := (by decide : ∀ j ∈ ciaLaterNumbers, 0 < j) i later; omega⟩
    exact silent.step_later h h6526 later ((by decide : ∀ j ∈ ciaSilentNumbers, j ∉ [16, 19, 21, 33, 34]) j before)
      (fun j8 => absurd (j8 ▸ before) (by decide)) (silent.clear j before)

end

/-! ## Timer A counts in one-shot mode -/

/-- Timer A runs in one-shot mode from CRA `%00001001`: its chains are fed, `Count0` to `Count2` are set, no reload is due. -/
structure Cia.Counting (b : CiaDelayBits) (c : Cia) : Prop where
  cra : c.cra = 9
  fedCount : c.feed.getLsbD (b.position 0) = true
  fedOneShot : c.feed.getLsbD (b.position 14) = true
  count : ∀ i < 3, c.delay.getLsbD (b.position i) = true
  load : c.delay.getLsbD (b.position 8) = false
  silent : c.Silent b

/-- From the second cycle on it counts down by one a cycle. -/
structure Cia.Running (b : CiaDelayBits) (k : Word) (c : Cia) : Prop extends c.Counting b where
  counter : c.counterA = k
  count3 : c.delay.getLsbD (b.position 3) = true
  load1 : c.delay.getLsbD (b.position 9) = false

theorem timerTick_load {latch : Word} (h : latch ≠ 0) (count2 pulse : Bool) (counter : Word) :
    timerTick true true false count2 pulse counter latch = (latch, false) := by
  have h : _ ≠ 0#16 := h
  simp [timerTick, h]

theorem timerTick_count {k : Word} (h : k ≠ 0) (count2 pulse : Bool) (latch : Word) :
    timerTick true false true count2 pulse k latch = (k - 1, k - 1 == 0) := by
  have h : _ ≠ 0#16 := h
  simp [timerTick, h]

theorem Cia.Counting.clockA {b : CiaDelayBits} {c : Cia} (counting : c.Counting b) : c.clockA = true := by
  rw [Cia.clockA, counting.cra]; rfl

theorem Cia.Running.tickA {b : CiaDelayBits} {k : Word} {c : Cia} (running : c.Running b k) (hk : k ≠ 0) :
    c.tickA b = (k - 1, k - 1 == 0) := by
  have count : c.has (b.countA + 3) = true := (Cia.has_eq ..).trans running.count3
  have load : c.has (b.loadA + 1) = false := (Cia.has_eq ..).trans running.load1
  rw [Cia.tickA, running.clockA, load, count, running.counter, timerTick_count hk]

/-- The cycle in which the counter reaches 0: underflow and one-shot stop. -/
theorem Cia.Running.underflow {cfg : Config} (h6526 : cfg.ciaModel = .mos6526) {c : Cia}
    (running : c.Running cfg.ciaDelayBits 1) :
    (c.step cfg).counterA = 0 ∧ (c.step cfg).taOut = true ∧ (c.step cfg).cra.getLsbD 0 = false := by
  obtain ⟨ser, acted⟩ := Cia.act_acted h6526 c
  have tick := running.tickA (by decide)
  have oneShot : c.oneShot cfg.ciaDelayBits.oneShotA = true := by
    have fed : c.feed.getLsbD cfg.ciaDelayBits.oneShotA = true := running.fedOneShot
    rw [Cia.oneShot, pipeHas_eq, BitVec.getLsbD_or, fed, Bool.or_true]
  refine ⟨?_, ?_, ?_⟩
  · exact acted.counterA.trans ((Cia.clocked_counterA ..).trans (congrArg Prod.fst tick))
  · exact acted.taOut.trans ((Cia.clocked_taOut ..).trans (congrArg Prod.snd tick))
  · have cra : (c.step cfg).cra = _ := acted.cra
    rw [cra, Cia.clocked_cra, Cia.stopsA, tick, oneShot, running.cra]
    decide

section
variable {cfg : Config} (h : cfg.ciaBitsOk = true) (h6526 : cfg.ciaModel = .mos6526) {c : Cia}
include h h6526

/-- While the counter has not reached 0 the timer keeps running. -/
theorem Cia.Counting.step (counting : c.Counting cfg.ciaDelayBits) {v : Word} (tick : c.tickA cfg.ciaDelayBits = (v, false)) :
    (c.step cfg).Running cfg.ciaDelayBits v ∧ (c.step cfg).taOut = false := by
  obtain ⟨ser, acted⟩ := Cia.act_acted h6526 c
  have silent := counting.silent
  have ta : (c.clocked cfg.ciaDelayBits).taOut = false := (Cia.clocked_taOut ..).trans (congrArg Prod.snd tick)
  have taOut : (c.step cfg).taOut = false := acted.taOut.trans ta
  have stops : c.stopsA cfg.ciaDelayBits = false := by rw [Cia.stopsA, tick]; rfl
  have feed : (c.step cfg).feed = c.feed := by rw [silent.step_feed h h6526, stops]; rfl
  have cra : (c.step cfg).cra = 9 := by
    have cra : (c.step cfg).cra = _ := acted.cra
    rw [cra, Cia.clocked_cra, stops]
    exact counting.cra
  have count (i) (hi : i < 3) : (c.step cfg).delay.getLsbD (cfg.ciaDelayBits.position (i + 1)) = true := by
    have hm : i ∈ [0, 1, 2] := by interval_cases i <;> decide
    have tod : cfg.ciaDelayBits.position i ∉ [33].map cfg.ciaDelayBits.position :=
      CiaDelayBits.position_not_mem h [33] (by omega) (by decide) ((by decide : ∀ j ∈ [0, 1, 2], j ∉ [33]) i hm)
    obtain ⟨q, delay⟩ := silent.clocked_delay h ta
    have kept : (c.clocked cfg.ciaDelayBits).delay.getLsbD (cfg.ciaDelayBits.position i) = true := by
      rw [delay, setPipe_bit, if_neg fun e => tod (List.mem_singleton.2 e.2.symm)]
      exact counting.count i hi
    refine (Cia.shiftPipe_later h _ ((by decide : ∀ j ∈ [0, 1, 2], j + 1 ∈ ciaLaterNumbers) i hm)).trans ?_
    rw [acted.keeps _ kept, Bool.true_or]
  refine ⟨⟨⟨cra, feed ▸ counting.fedCount, feed ▸ counting.fedOneShot, fun i hi => ?_, ?_, silent.step h h6526⟩, ?_, ?_, ?_⟩,
    taOut⟩
  · cases i with
    | zero => exact (Cia.shiftPipe_first h _ (by decide)).trans (feed ▸ counting.fedCount)
    | succ i => exact count i (by omega)
  · exact silent.step_first h h6526 (by decide) (by decide)
  · exact acted.counterA.trans ((Cia.clocked_counterA ..).trans (congrArg Prod.fst tick))
  · exact count 2 (by decide)
  · exact silent.step_later h h6526 (by decide) (by decide) (fun _ => taOut) counting.load

end

theorem pipeBits3_bit (k p : Nat) :
    (pipeBits3 k).getLsbD p = (decide (p < 64) && decide (p = k ∨ p = k + 1 ∨ p = k + 2)) := by
  have seven : ∀ n, (7#64).getLsbD n = decide (n = 0 ∨ n = 1 ∨ n = 2) := by
    intro n
    by_cases hn : n < 3
    · interval_cases n <;> decide
    · rw [BitVec.getLsbD, BitVec.toNat_ofNat, Nat.testBit_lt_two_pow (Nat.lt_of_lt_of_le (by decide : 7 % 2 ^ 64 < 2 ^ 3)
        (Nat.pow_le_pow_right (by decide) (by omega)))]
      exact (decide_eq_false (by omega)).symm
  rw [pipeBits3, BitVec.getLsbD_shiftLeft, seven]
  rw [Bool.eq_iff_iff]
  simp only [Bool.and_eq_true, decide_eq_true_eq, Bool.not_eq_true', decide_eq_false_iff_not]
  omega

/-- The write of `%00011001` to the CRA of an idle chip sets `CountA0` to `CountA2` and `LoadA1`. -/
theorem Cia.delay_of_write (cfg : Config) {c : Cia} (hdelay : c.delay = 0) (hcra : c.cra = 0) (p : Nat) :
    (c.write cfg 14 0x19).delay.getLsbD p =
      (decide (p < 64) && decide (p ∈ [0, 1, 2, 9].map cfg.ciaDelayBits.position)) := by
  have delay : (c.write cfg 14 0x19).delay =
      pipeBits3 cfg.ciaDelayBits.countA ||| pipeBit (cfg.ciaDelayBits.loadA + 1) := by
    simp [Cia.write, Cia.writeCra, pipeControl, hdelay, hcra]
  have stages : [0, 1, 2, 9].map cfg.ciaDelayBits.position = [cfg.ciaDelayBits.countA, cfg.ciaDelayBits.countA + 1,
    cfg.ciaDelayBits.countA + 2, cfg.ciaDelayBits.loadA + 1] := rfl
  rw [delay, BitVec.getLsbD_or, pipeBits3_bit, pipeBit_bit, stages]
  by_cases hp : p < 64 <;> simp [hp, Bool.or_assoc, eq_comm]

theorem Cia.feed_of_write (cfg : Config) {c : Cia} (hfeed : c.feed = 0) (p : Nat) :
    (c.write cfg 14 0x19).feed.getLsbD p =
      (decide (p < 64) && decide (p ∈ [0, 14].map cfg.ciaDelayBits.position)) := by
  have feed : (c.write cfg 14 0x19).feed =
      setPipe cfg.ciaDelayBits.oneShotA true (setPipe cfg.ciaDelayBits.countA true 0) := by
    simp [Cia.write, Cia.writeCra, feedControl, hfeed]
  have stages : [0, 14].map cfg.ciaDelayBits.position = [cfg.ciaDelayBits.countA, cfg.ciaDelayBits.oneShotA] := rfl
  rw [feed, setPipe_bit, setPipe_bit, stages]
  by_cases hp : p < 64 <;> simp [hp, Bool.or_comm, eq_comm]

/-- The write of CRA starts the count. -/
theorem Cia.counting_of_write {cfg : Config} (h : cfg.ciaBitsOk = true) {c : Cia} (hdelay : c.delay = 0) (hfeed : c.feed = 0)
    (hcra : c.cra = 0) : (c.write cfg 14 0x19).Counting cfg.ciaDelayBits := by
  have lt {i : Nat} (hi : i < 38) := CiaDelayBits.position_lt h hi
  have clear {i : Nat} (hi : i < 38) (hne : i ∉ [0, 1, 2, 9]) :
      (c.write cfg 14 0x19).delay.getLsbD (cfg.ciaDelayBits.position i) = false := by
    rw [Cia.delay_of_write cfg hdelay hcra, decide_eq_false (CiaDelayBits.position_not_mem h _ hi (by decide) hne),
      Bool.and_false]
  have set {i : Nat} (hi : i ∈ [0, 1, 2, 9]) :
      (c.write cfg 14 0x19).delay.getLsbD (cfg.ciaDelayBits.position i) = true := by
    rw [Cia.delay_of_write cfg hdelay hcra, decide_eq_true (List.mem_map_of_mem hi),
      decide_eq_true (lt ((by decide : ∀ j ∈ [0, 1, 2, 9], j < 38) i hi)), Bool.and_true]
  have fed {i : Nat} (hi : i ∈ [0, 14]) :
      (c.write cfg 14 0x19).feed.getLsbD (cfg.ciaDelayBits.position i) = true := by
    rw [Cia.feed_of_write cfg hfeed, decide_eq_true (List.mem_map_of_mem hi),
      decide_eq_true (lt ((by decide : ∀ j ∈ [0, 14], j < 38) i hi)), Bool.and_true]
  refine ⟨rfl, fed (by decide), fed (by decide), fun i hi => set (by interval_cases i <;> decide), clear (by decide) (by decide),
    fun i hi => ?_, fun p hp => ?_⟩
  · exact clear ((by decide : ∀ j ∈ ciaSilentNumbers, j < 38) i hi) ((by decide : ∀ j ∈ ciaSilentNumbers, j ∉ [0, 1, 2, 9]) i hi)
  · rw [Cia.feed_of_write cfg hfeed, Bool.and_eq_true] at hp
    exact of_decide_eq_true hp.2

/-! ## The interrupt line -/

/-- The line is released, timer A's flag is clear, and no pull is under way. -/
structure Cia.Unpulled (b : CiaDelayBits) (c : Cia) : Prop where
  irqOut : c.irqOut = false
  flag : c.icr.getLsbD 0 = false
  setInt0 : c.delay.getLsbD (b.position 21) = false
  setInt1 : c.delay.getLsbD (b.position 22) = false

/-- When at most timer A's flag is enabled, an enabled flag is pending if and only if that one is. -/
theorem Cia.enabled_ne_zero (c : Cia) (h : c.imr &&& 0xFE = 0) :
    decide (c.enabled ≠ 0#8) = (c.icr.getLsbD 0 && c.imr.getLsbD 0) := by
  have masks : ∀ m : Byte, m &&& 0xFE = 0 → m = 0 ∨ m = 1 := by decide
  have none : ∀ i : Byte, decide (i &&& 0 &&& 0x1F#8 ≠ 0#8) = (i.getLsbD 0 && (0 : Byte).getLsbD 0) := by decide
  have timer : ∀ i : Byte, decide (i &&& 1 &&& 0x1F#8 ≠ 0#8) = (i.getLsbD 0 && (1 : Byte).getLsbD 0) := by decide
  unfold Cia.enabled
  rcases masks c.imr h with e | e
  · rw [e]; exact none c.icr
  · rw [e]; exact timer c.icr

section
variable {cfg : Config} (h : cfg.ciaBitsOk = true) (h6526 : cfg.ciaModel = .mos6526) {c : Cia}
  (silent : c.Silent cfg.ciaDelayBits) (unpulled : c.Unpulled cfg.ciaDelayBits)
include h6526

theorem Cia.step_imr : (c.step cfg).imr = c.imr := by
  obtain ⟨ser, acted⟩ := Cia.act_acted h6526 c
  exact acted.imr

include silent unpulled

theorem Cia.Unpulled.step_irqOut : (c.step cfg).irqOut = false := by
  rw [silent.step_irqOut h6526, unpulled.irqOut, unpulled.setInt1]
  rfl

include h

/-- A cycle starts a pull exactly if timer A underflows in it and its flag is enabled. -/
theorem Cia.Unpulled.step_setInt1 (hmask : c.imr &&& 0xFE = 0) :
    (c.step cfg).delay.getLsbD (cfg.ciaDelayBits.position 22) = ((c.step cfg).taOut && c.imr.getLsbD 0) := by
  obtain ⟨ser, acted⟩ := Cia.act_acted h6526 c
  have imr : (c.act cfg).imr = c.imr := c.step_imr h6526
  have icr : (c.act cfg).icr.getLsbD 0 = (c.step cfg).taOut := by
    refine (silent.step_icr h6526).trans ?_
    rw [unpulled.flag, Bool.false_or]
  have irqOut : (c.act cfg).irqOut = false := Cia.Unpulled.step_irqOut h6526 silent unpulled
  have serLoad : cfg.ciaDelayBits.position 21 ∉ [19].map cfg.ciaDelayBits.position :=
    CiaDelayBits.position_not_mem h [19] (by decide) (by decide) (by decide)
  have lt : cfg.ciaDelayBits.position 21 < 64 := CiaDelayBits.position_lt h (by decide)
  have act : (c.act cfg).delay.getLsbD (cfg.ciaDelayBits.position 21) = ((c.step cfg).taOut && c.imr.getLsbD 0) := by
    rw [acted.bit _ fun e => serLoad (List.mem_singleton.2 e),
      silent.clocked_clear h h6526 (by decide) (by decide) (fun e => absurd e (by decide)) unpulled.setInt0,
      Cia.enabled_ne_zero _ (imr ▸ hmask), icr, imr, irqOut, decide_eq_true lt,
      decide_eq_true (p := cfg.ciaDelayBits.setInt = cfg.ciaDelayBits.position 21) rfl]
    simp
  have feed : (c.act cfg).feed.getLsbD (cfg.ciaDelayBits.position 22) = false := Bool.eq_false_iff.2 fun e =>
    CiaDelayBits.position_not_mem h [0, 14] (by decide) (by decide) (by decide) (silent.step_fed h h6526 e)
  refine (Cia.shiftPipe_later h _ (by decide)).trans ?_
  rw [act, feed, Bool.or_false]

theorem Cia.Unpulled.step (hmask : c.imr &&& 0xFE = 0) (hta : (c.step cfg).taOut = false) :
    (c.step cfg).Unpulled cfg.ciaDelayBits := by
  refine ⟨Cia.Unpulled.step_irqOut h6526 silent unpulled, ?_, silent.step_first h h6526 (by decide) (by decide), ?_⟩
  · rw [silent.step_icr h6526, unpulled.flag, hta]
    rfl
  · rw [unpulled.step_setInt1 h h6526 silent hmask, hta, Bool.false_and]

end

/-! ## From the write to the underflow -/

section
variable {cfg : Config} (h : cfg.ciaBitsOk = true) (h6526 : cfg.ciaModel = .mos6526) {c : Cia} {l : Nat}
  (hdelay : c.delay = 0) (hfeed : c.feed = 0) (hcra : c.cra = 0) (hlatch : c.latchA = BitVec.ofNat 16 l)
  (hl : 0 < l) (hl16 : l < 65536)
include h h6526 hdelay hfeed hcra hlatch hl hl16

/-- In cycle `n + 1` after the write the timer runs with `l - n` left. -/
theorem Cia.running_of_write (n : Nat) (hn : n < l) :
    ((Cia.step cfg)^[n + 1] (c.write cfg 14 0x19)).Running cfg.ciaDelayBits (BitVec.ofNat 16 (l - n)) ∧
    ((Cia.step cfg)^[n + 1] (c.write cfg 14 0x19)).taOut = false := by
  induction n with
  | zero =>
    have counting := Cia.counting_of_write h hdelay hfeed hcra
    have bit {i : Nat} (hi : i < 38) := Cia.delay_of_write cfg hdelay hcra (cfg.ciaDelayBits.position i)
    have count : (c.write cfg 14 0x19).has (cfg.ciaDelayBits.countA + 3) = false := by
      have e := bit (i := 3) (by decide)
      rw [decide_eq_false (CiaDelayBits.position_not_mem h _ (by decide) (by decide) (by decide)), Bool.and_false] at e
      exact (Cia.has_eq ..).trans e
    have load : (c.write cfg 14 0x19).has (cfg.ciaDelayBits.loadA + 1) = true := by
      have e := bit (i := 9) (by decide)
      rw [decide_eq_true (List.mem_map_of_mem (by decide)), decide_eq_true (CiaDelayBits.position_lt h (by decide))] at e
      exact (Cia.has_eq ..).trans e
    have latch : (c.write cfg 14 0x19).latchA = BitVec.ofNat 16 l := hlatch
    have pos : BitVec.ofNat 16 l ≠ 0 := fun e => by
      have := congrArg BitVec.toNat e
      simp at this
      omega
    refine counting.step h h6526 ?_
    rw [Cia.tickA, counting.clockA, load, count, latch, timerTick_load pos]
    rfl
  | succ n ih =>
    obtain ⟨running, -⟩ := ih (by omega)
    have pos : BitVec.ofNat 16 (l - n) ≠ 0 := fun e => by
      have := congrArg BitVec.toNat e
      simp at this
      omega
    have next : BitVec.ofNat 16 (l - n) - 1 = BitVec.ofNat 16 (l - (n + 1)) := by
      apply BitVec.eq_of_toNat_eq
      simp
      omega
    have nextPos : BitVec.ofNat 16 (l - (n + 1)) ≠ 0 := fun e => by
      have := congrArg BitVec.toNat e
      simp at this
      omega
    rw [Function.iterate_succ_apply']
    refine running.toCounting.step h h6526 ?_
    rw [running.tickA pos, next, beq_eq_false_iff_ne.2 nextPos]

/-- Until the underflow the line stays released. -/
theorem Cia.unpulled_of_write (hicr : c.icr = 0) (hirq : c.irqOut = false) (hmask : c.imr &&& 0xFE = 0) (n : Nat) (hn : n < l) :
    ((Cia.step cfg)^[n + 1] (c.write cfg 14 0x19)).Unpulled cfg.ciaDelayBits ∧
    ((Cia.step cfg)^[n + 1] (c.write cfg 14 0x19)).imr = c.imr := by
  induction n with
  | zero =>
    have clear {i : Nat} (hi : i < 38) (hne : i ∉ [0, 1, 2, 9]) :
        (c.write cfg 14 0x19).delay.getLsbD (cfg.ciaDelayBits.position i) = false := by
      rw [Cia.delay_of_write cfg hdelay hcra, decide_eq_false (CiaDelayBits.position_not_mem h _ hi (by decide) hne),
        Bool.and_false]
    have unpulled : (c.write cfg 14 0x19).Unpulled cfg.ciaDelayBits :=
      ⟨hirq, congrArg (BitVec.getLsbD · 0) hicr, clear (by decide) (by decide), clear (by decide) (by decide)⟩
    obtain ⟨-, ta⟩ := Cia.running_of_write h h6526 hdelay hfeed hcra hlatch hl hl16 0 hn
    exact ⟨unpulled.step h h6526 (Cia.counting_of_write h hdelay hfeed hcra).silent hmask ta, Cia.step_imr h6526⟩
  | succ n ih =>
    obtain ⟨unpulled, imr⟩ := ih (by omega)
    obtain ⟨running, -⟩ := Cia.running_of_write h h6526 hdelay hfeed hcra hlatch hl hl16 n (by omega)
    obtain ⟨-, ta⟩ := Cia.running_of_write h h6526 hdelay hfeed hcra hlatch hl hl16 (n + 1) hn
    rw [Function.iterate_succ_apply'] at ta ⊢
    exact ⟨unpulled.step h h6526 running.silent (imr ▸ hmask) ta, (Cia.step_imr h6526).trans imr⟩

end

end Sys2Proof.Machine

namespace Sys2Proof

open Machine

/-- Settles O52. -/
theorem timerOneShot : Obligations.TimerOneShot := by
  intro cfg c l h6526 h hl hl16 hdelay hfeed hcra hlatch r
  have running (n) (hn : n < l) := Cia.running_of_write h h6526 hdelay hfeed hcra hlatch hl hl16 n hn
  have one : BitVec.ofNat 16 (l - (l - 1)) = 1 := by
    rw [show l - (l - 1) = 1 by omega]; rfl
  have last : (r l).Running cfg.ciaDelayBits 1 := by
    have run := (running (l - 1) (by omega)).1
    rwa [one, Nat.sub_add_cancel hl] at run
  have succ (n) : r (n + 1) = (r n).step cfg := Function.iterate_succ_apply' ..
  obtain ⟨counter, ta, cra⟩ := last.underflow h6526
  refine ⟨fun n hn hnl => ?_, fun n hn hnl => ?_, (succ l).symm ▸ ta, (succ l).symm ▸ cra, ?_, fun hicr hirq hmask => ?_⟩
  · rcases Nat.lt_or_ge l n with e | e
    · obtain rfl : n = l + 1 := by omega
      rw [succ, counter, Nat.sub_self]
      rfl
    · have count := (running (n - 1) (by omega)).1.counter
      rwa [Nat.sub_add_cancel hn, show l - (n - 1) = l + 1 - n by omega] at count
  · obtain ⟨run, out⟩ := running (n - 1) (by omega)
    rw [Nat.sub_add_cancel hn] at run out
    exact ⟨out, congrArg (BitVec.getLsbD · 0) run.cra⟩
  · rw [succ, last.silent.step_icr h6526, ta, Bool.or_true]
  · have unpulled (n) (hn : n < l) := Cia.unpulled_of_write h h6526 hdelay hfeed hcra hlatch hl hl16 hicr hirq hmask n hn
    obtain ⟨quiet, imr⟩ := unpulled (l - 1) (by omega)
    rw [Nat.sub_add_cancel hl] at quiet imr
    have released : (r (l + 1)).irqOut = false := (succ l).symm ▸ Cia.Unpulled.step_irqOut h6526 last.silent quiet
    refine ⟨fun n hn hnl => ?_, ?_⟩
    · rcases Nat.lt_or_ge l n with e | e
      · obtain rfl : n = l + 1 := by omega
        exact released
      · have quiet := (unpulled (n - 1) (by omega)).1.irqOut
        rwa [Nat.sub_add_cancel hn] at quiet
    · have silent : (r (l + 1)).Silent cfg.ciaDelayBits := (succ l).symm ▸ last.silent.step h h6526
      have pull : (r (l + 1)).delay.getLsbD (cfg.ciaDelayBits.position 22) = c.imr.getLsbD 0 := by
        rw [succ, quiet.step_setInt1 h h6526 last.silent (imr ▸ hmask), ta, Bool.true_and]
        exact congrArg (BitVec.getLsbD · 0) imr
      rw [succ (l + 1), silent.step_irqOut h6526, released, pull, Bool.false_or]

end Sys2Proof
end

section
/-! The VIC-II's raster position and bad lines (60_exceptions.md R470, R475, R476). -/

namespace Sys2Proof.Machine

/-! ## Raster position, DEN latch and bad line flag through the cycle -/

/-- Raster position, DEN latch and bad line flag. -/
def Vic.beam (v : Vic) : (Nat × Nat) × Bool × Bool := ((v.line, v.cycle), v.denLatch, v.badLine)

@[simp] theorem Vic.spritePhase_beam (m : VicModel) (i : VicInputs) (v : Vic) : (v.spritePhase m i).beam = v.beam := rfl
@[simp] theorem Vic.spriteEnd_beam (m : VicModel) (v : Vic) : (v.spriteEnd m).beam = v.beam := rfl
@[simp] theorem Vic.copyPhase_beam (v : Vic) : v.copyPhase.beam = v.beam := rfl
@[simp] theorem Vic.shiftPipe_beam (v : Vic) : v.shiftPipe.beam = v.beam := rfl
@[simp] theorem Vic.collisionPhase_beam (i : VicInputs) (v : Vic) : (v.collisionPhase i).beam = v.beam := rfl

@[simp] theorem Vic.rasterPhase_beam (v : Vic) : v.rasterPhase.beam = v.beam := by
  unfold Vic.rasterPhase; repeat' split
  all_goals rfl

@[simp] theorem Vic.rowStart_beam (v : Vic) : v.rowStart.beam = v.beam := by
  unfold Vic.rowStart; split <;> rfl

@[simp] theorem Vic.gAccess_beam (i : VicInputs) (v : Vic) : (v.gAccess i).beam = v.beam := by
  have afterG : v.afterG.beam = v.beam := by unfold Vic.afterG; split <;> rfl
  exact afterG

@[simp] theorem Vic.cAccess_beam (i : VicInputs) (v : Vic) : (v.cAccess i).beam = v.beam := by
  unfold Vic.cAccess; split <;> rfl

@[simp] theorem Vic.rowEnd_beam (v : Vic) : v.rowEnd.beam = v.beam := by
  simp only [Vic.rowEnd]; repeat' split
  all_goals rfl

@[simp] theorem Vic.borderPhase_beam (m : VicModel) (v : Vic) : (v.borderPhase m).beam = v.beam := by
  simp only [Vic.borderPhase]; repeat' split
  all_goals rfl

@[simp] theorem Vic.lightPenPhase_beam (i : VicInputs) (v : Vic) : (v.lightPenPhase i).beam = v.beam := by
  unfold Vic.lightPenPhase; split <;> rfl

@[simp] theorem Vic.noteIrq_beam (stage : Nat) (v : Vic) : (v.noteIrq stage).beam = v.beam := by
  unfold Vic.noteIrq; repeat' split
  all_goals rfl

/-- The flags of a cycle are those of its bad line phase. -/
theorem Vic.step_beam (m : VicModel) (i : VicInputs) (v : Vic) :
    (v.step m i).beam = v.irqPhase.frameStart.badLinePhase.beam := by
  have ba (w : Vic) (q : Bool) : Vic.beam { w with ba := q } = w.beam := rfl
  simp [Vic.step_eq, Vic.afterCollisions, ba, Vic.beforeCollisions, Vic.rowPhase, Vic.conditions]

/-- The start of a frame clears the DEN latch and moves neither the position nor a register. -/
theorem Vic.frameStart_latch (v : Vic) : v.frameStart.denLatch = (v.denLatch && !decide (v.line = 0 ∧ v.cycle = 1)) ∧
    v.frameStart.line = v.line ∧ v.frameStart.cycle = v.cycle ∧ v.frameStart.del = v.del := by
  unfold Vic.frameStart
  split
  case isTrue h => simp_all
  case isFalse h =>
    have h : ¬(v.line = 0 ∧ v.cycle = 1) := by simpa using h
    exact ⟨by rw [decide_eq_false h, Bool.not_false, Bool.and_true], rfl, rfl, rfl⟩

theorem Vic.badLinePhase_latch (v : Vic) :
    v.badLinePhase.denLatch = (v.denLatch || (decide (v.line = 0x30) && (v.del.read 0x11).getLsbD 4)) := rfl

theorem Vic.badLinePhase_badLine (v : Vic) : v.badLinePhase.badLine = (v.badLinePhase.denLatch &&
    decide (0x30 ≤ v.line) && decide (v.line ≤ 0xF7) && decide (v.line % 8 = (v.del.read 0x11).toNat % 8)) := rfl

theorem Vic.step_position (m : VicModel) (i : VicInputs) (v : Vic) :
    (v.step m i).line = v.line ∧ (v.step m i).cycle = v.cycle := by
  obtain ⟨-, line, cycle, -⟩ := v.irqPhase.frameStart_latch
  obtain ⟨position, -⟩ := Prod.mk.inj (v.step_beam m i)
  obtain ⟨l, c⟩ := Prod.mk.inj position
  exact ⟨l.trans line, c.trans cycle⟩

/-! ## The position in the machine -/

theorem Vic.write_position (cfg : Config) (r : Nat) (x : Byte) (v : Vic) :
    (v.write cfg r x).line = v.line ∧ (v.write cfg r x).cycle = v.cycle := by
  have shadow (y : Byte) : (v.writeShadow cfg r y).line = v.line ∧ (v.writeShadow cfg r y).cycle = v.cycle := by
    unfold Vic.writeShadow; dsimp only; repeat' split
    all_goals exact ⟨rfl, rfl⟩
  have note (w : Vic) : (w.noteIrq 1).line = w.line ∧ (w.noteIrq 1).cycle = w.cycle := by
    unfold Vic.noteIrq; repeat' split
    all_goals exact ⟨rfl, rfl⟩
  unfold Vic.write
  split_ifs
  · exact ⟨rfl, rfl⟩
  · exact ⟨rfl, rfl⟩
  · exact note _
  · exact ⟨(note _).1.trans (shadow _).1, (note _).2.trans (shadow _).2⟩
  · exact shadow _
  · exact shadow _

/-- The position that the end of the cycle advances. -/
def State.SamePosition (s t : State) : Prop := t.cfg = s.cfg ∧ t.vic.line = s.vic.line ∧ t.vic.cycle = s.vic.cycle

theorem State.samePosition_devices (s : State) : s.SamePosition s.devices :=
  ⟨s.devices_cfg, (s.vic.step_position _ _).1, (s.vic.step_position _ _).2⟩

theorem State.samePosition_busRead (a : Word) (s : State) : s.SamePosition (s.busRead a).2 := by
  refine ⟨s.busRead_cfg a, ?_⟩
  rcases s.busRead_vic a with e | ⟨r, e⟩
  · rw [e]; exact ⟨rfl, rfl⟩
  · have frame := Vic.read_frame r s.vic
    simp only [Vic.frame, Prod.mk.injEq] at frame
    rw [e]
    exact ⟨frame.1, frame.2.1⟩

theorem State.samePosition_busWrite (a : Word) (v : Byte) (s : State) : s.SamePosition (s.busWrite a v) := by
  refine ⟨s.busWrite_cfg a v, ?_⟩
  rcases s.busWrite_vic a v with e | ⟨r, e⟩
  · rw [e]; exact ⟨rfl, rfl⟩
  · rw [e]; exact s.vic.write_position _ _ _

theorem State.SamePosition.trans {s t u : State} (h : s.SamePosition t) (h' : t.SamePosition u) : s.SamePosition u :=
  ⟨h'.1.trans h.1, h'.2.1.trans h.2.1, h'.2.2.trans h.2.2⟩

/-- The new position is a function of the old one. -/
theorem Vic.advance_congr (m : VicModel) {v w : Vic} (hl : w.line = v.line) (hc : w.cycle = v.cycle) :
    (w.advance m).cycle = (v.advance m).cycle ∧ (w.advance m).line = (v.advance m).line := by
  unfold Vic.advance
  rw [hl, hc]
  split
  · exact ⟨rfl, rfl⟩
  · exact ⟨rfl, rfl⟩

theorem State.SamePosition.finish {s t : State} (h : s.SamePosition t) :
    t.finish.vic.cycle = (s.vic.advance s.cfg.vicModel).cycle ∧ t.finish.vic.line = (s.vic.advance s.cfg.vicModel).line := by
  rw [State.finish_vic, h.1]
  exact Vic.advance_congr _ h.2.1 h.2.2

/-- Whatever the row does, the clock cycle ends by advancing the raster. -/
theorem State.clock_position {s : State} {r : Row} (h : s.cpu.currentRow s.cfg = some r) :
    s.clock.vic.cycle = (s.vic.advance s.cfg.vicModel).cycle ∧ s.clock.vic.line = (s.vic.advance s.cfg.vicModel).line := by
  cases r with
  | read addr k =>
    cases hr : s.devices.cpu.lines.rdy with
    | false =>
      rw [State.clock_of_stall h hr]
      exact State.SamePosition.finish (t := { s.devices with cpu := _ }) s.samePosition_devices
    | true =>
      rw [State.clock_of_read h hr]
      have read : s.SamePosition (s.devices.performRead addr k none) :=
        s.samePosition_devices.trans (s.devices.samePosition_busRead (addr s.devices.cpu))
      exact read.finish
  | write addr val k =>
    rw [State.clock_of_write h]
    have write : s.SamePosition (s.devices.performWrite addr val k) :=
      s.samePosition_devices.trans (s.devices.samePosition_busWrite (addr s.devices.cpu) (val s.devices.cpu))
    exact write.finish

/-! ## Lines and frames -/

section
variable {m : VicModel}

theorem Vic.advance_in_line {v : Vic} (h : v.cycle < m.cyclesPerLine) : v.advance m = { v with cycle := v.cycle + 1 } :=
  if_pos h

theorem Vic.advance_at_end {v : Vic} (h : v.cycle = m.cyclesPerLine) (hl : v.line < m.linesPerFrame) :
    v.advance m = { v with cycle := 1, line := (v.line + 1) % m.linesPerFrame } := by
  have line : (if v.line + 1 < m.linesPerFrame then v.line + 1 else 0) = (v.line + 1) % m.linesPerFrame := by
    split
    case isTrue e => exact (Nat.mod_eq_of_lt e).symm
    case isFalse e => rw [show v.line + 1 = m.linesPerFrame by omega, Nat.mod_self]
  rw [Vic.advance, if_neg (by omega), line]

theorem Vic.advance_iterate_in_line (n : Nat) {v : Vic} (h : v.cycle + n ≤ m.cyclesPerLine) :
    (Vic.advance m)^[n] v = { v with cycle := v.cycle + n } := by
  induction n with
  | zero => rfl
  | succ n ih =>
    rw [Function.iterate_succ_apply', ih (by omega), Vic.advance_in_line (show v.cycle + n < _ by omega)]
    rfl

/-- A line's cycles later the beam is at the same place of the next line. -/
theorem Vic.advance_line {v : Vic} (h1 : 1 ≤ v.cycle) (hc : v.cycle ≤ m.cyclesPerLine) (hl : v.line < m.linesPerFrame) :
    (Vic.advance m)^[m.cyclesPerLine] v = { v with line := (v.line + 1) % m.linesPerFrame } := by
  obtain ⟨k, hk⟩ : ∃ k, v.cycle + k = m.cyclesPerLine := ⟨_, Nat.add_sub_of_le hc⟩
  have split : m.cyclesPerLine = (v.cycle - 1) + (1 + k) := by omega
  have rest : 1 + (v.cycle - 1) = v.cycle := by omega
  have last : (Vic.advance m)^[v.cycle - 1] { v with cycle := 1, line := (v.line + 1) % m.linesPerFrame } =
      { v with cycle := 1 + (v.cycle - 1), line := (v.line + 1) % m.linesPerFrame } :=
    Vic.advance_iterate_in_line (v.cycle - 1) (show 1 + (v.cycle - 1) ≤ _ by omega)
  have wrap : Vic.advance m { v with cycle := v.cycle + k } = { v with cycle := 1, line := (v.line + 1) % m.linesPerFrame } :=
    Vic.advance_at_end (v := { v with cycle := v.cycle + k }) hk hl
  rw [split, Function.iterate_add_apply, Function.iterate_add_apply, Vic.advance_iterate_in_line k hk.le,
    Function.iterate_one, wrap, last, rest]

/-- `n` lines later. -/
theorem Vic.advance_lines (n : Nat) {v : Vic} (h1 : 1 ≤ v.cycle) (hc : v.cycle ≤ m.cyclesPerLine) (hl : v.line < m.linesPerFrame) :
    ((Vic.advance m)^[m.cyclesPerLine])^[n] v = { v with line := (v.line + n) % m.linesPerFrame } := by
  induction n with
  | zero => rw [Function.iterate_zero, id, Nat.add_zero, Nat.mod_eq_of_lt hl]
  | succ n ih =>
    rw [Function.iterate_succ_apply', ih,
      Vic.advance_line (v := { v with line := (v.line + n) % m.linesPerFrame }) h1 hc (Nat.mod_lt _ (linesPerFrame_pos m))]
    simp [Nat.add_assoc]

/-- A frame's cycles later the beam is where it was. -/
theorem Vic.advance_frame {v : Vic} (h1 : 1 ≤ v.cycle) (hc : v.cycle ≤ m.cyclesPerLine) (hl : v.line < m.linesPerFrame) :
    (Vic.advance m)^[m.cyclesPerLine * m.linesPerFrame] v = v := by
  rw [Function.iterate_mul, Vic.advance_lines _ h1 hc hl, Nat.add_mod_right, Nat.mod_eq_of_lt hl]

end

end Sys2Proof.Machine

namespace Sys2Proof

open Machine

/-- Settles O55. -/
theorem badLineRule : Obligations.BadLineRule := by
  intro m i v w
  obtain ⟨latch, line, cycle, del⟩ := v.irqPhase.frameStart_latch
  obtain ⟨-, flags⟩ := Prod.mk.inj (v.step_beam m i)
  obtain ⟨den, bad⟩ := Prod.mk.inj flags
  have den : w.denLatch = _ := den
  have bad : w.badLine = _ := bad
  have line : v.irqPhase.frameStart.line = v.line := line
  have del : v.irqPhase.frameStart.del = v.del := del
  have latch : v.irqPhase.frameStart.denLatch = (v.denLatch && !decide (v.line = 0 ∧ v.cycle = 1)) := latch
  refine ⟨?_, ?_⟩
  · rw [den, Vic.badLinePhase_latch, latch, line, del, Bool.or_comm]
    simp
  · rw [bad, Vic.badLinePhase_badLine, ← den, line, del]
    simp [Bool.and_assoc]

/-- Settles O56. -/
theorem rasterFrame : Obligations.RasterFrame :=
  ⟨⟨rfl, rfl⟩, ⟨rfl, rfl⟩, ⟨rfl, rfl⟩, fun _ _ h1 hc hl => ⟨Vic.advance_in_line, fun h => Vic.advance_at_end h hl,
    Vic.advance_frame h1 hc hl, fun _ _ hm h => hm ▸ State.clock_position h⟩⟩

end Sys2Proof
end

section
/-! The GCR code and the 1541 drive (60_exceptions.md R513 to R527). -/

namespace Sys2Proof.Machine

/-! ## GCR -/

/-- In a table of different codes a code stands for its own nibble. -/
theorem gcrNibble_gcrCode {table : List (BitVec 5)} (hlen : table.length = 16) (h : table.Nodup) (n : BitVec 4) :
    gcrNibble table (gcrCode table n) = some n := by
  have hn : n.toNat < table.length := hlen ▸ n.isLt
  have index : table.idxOf? table[n.toNat] = some n.toNat := List.idxOf?_eq_some_iff.2
    ⟨hn, rfl, fun j hj e => Nat.ne_of_lt hj ((h.getElem_inj_iff).1 e)⟩
  rw [gcrCode, List.getD_eq_getElem _ _ hn, gcrNibble, index, Option.map_some, BitVec.ofNat_toNat, BitVec.setWidth_eq]

/-! ## Events and the disk -/

/-- The disk and the two event clocks. -/
def Drive.store (d : Drive) : Disk × Nat × Nat := (d.disk, d.nextClock, d.nextCarry)

@[simp] theorem Drive.holdCount_store (d : Drive) : d.holdCount.store = d.store := by
  unfold Drive.holdCount; split <;> rfl

@[simp] theorem Drive.byteReady_store (d : Drive) : d.byteReady.store = d.store := by
  unfold Drive.byteReady; split <;> rfl

theorem Drive.busRead_store (p : IecPulls) (a : Nat) (d : Drive) : (d.busRead p a).2.store = d.store := by
  rcases d.busRead_cases p a with h | ⟨v1, v2, -, -, h⟩ <;> rw [h]
  rfl

theorem Drive.busWrite_store (a : Nat) (x : Byte) (d : Drive) : (d.busWrite a x).store = d.store := by
  have head (old : BitVec 2) (e : Drive) : (e.stepHead old).store = e.store := rfl
  have via1 (v : Via) : Drive.store { d with via1 := v } = d.store := rfl
  have via2 (v : Via) : Drive.store { d with via2 := v } = d.store := rfl
  unfold Drive.busWrite
  split_ifs
  · rfl
  · exact via1 _
  · rw [Drive.holdCount_store, head, via2]
  · rfl

theorem Drive.cpuRow_store (cfg : Config) (p : IecPulls) (d : Drive) : (d.cpuRow cfg p).store = d.store := by
  unfold Drive.cpuRow
  split
  · rfl
  · exact d.busRead_store p _
  · exact d.busWrite_store _ _

theorem Drive.clockEvent_store (cfg : Config) (p : IecPulls) (d : Drive) :
    (d.clockEvent cfg p).store = (d.disk, d.nextClock + 10000, d.nextCarry) := by
  have cycle : (d.cpuCycle cfg p).store = d.store := (Drive.cpuRow_store cfg p _).trans rfl
  have next (e : Drive) (h : e.store = d.store) :
      Drive.store { e with nextClock := e.nextClock + 10000 } = (d.disk, d.nextClock + 10000, d.nextCarry) := by
    simp only [Drive.store, Prod.mk.injEq] at h ⊢
    obtain ⟨disk, clock, carry⟩ := h
    exact ⟨disk, congrArg (· + 10000) clock, carry⟩
  refine next _ ?_
  split
  · exact cycle
  · rfl

@[simp] theorem Drive.countBit_store (d : Drive) : d.countBit.store = d.store := by
  unfold Drive.countBit
  split_ifs
  · rfl
  · exact Drive.byteReady_store _
  · rfl

theorem Drive.headBit_store (d : Drive) : d.headBit.2.store = d.store := by
  unfold Drive.headBit; split <;> rfl

theorem Drive.readBit_store (d : Drive) : d.readBit.store = d.store :=
  (Drive.countBit_store _).trans ((Drive.headBit_store _).trans (Drive.holdCount_store _))

theorem Drive.putBit_times (d : Drive) : d.putBit.nextClock = d.nextClock ∧ d.putBit.nextCarry = d.nextCarry := by
  unfold Drive.putBit; split <;> exact ⟨rfl, rfl⟩

/-- Nothing is written to a protected disk (R527). -/
theorem Drive.putBit_disk (d : Drive) (h : d.disk.writeProtected = true) : d.putBit.disk = d.disk := by
  unfold Drive.putBit
  split_ifs
  · rfl
  · rfl

theorem Drive.writeBit_store (d : Drive) : d.writeBit.store = d.putBit.store := by
  rw [Drive.writeBit_eq]
  split
  · exact Drive.byteReady_store _
  · rfl

theorem Drive.bitReady_times (d : Drive) : d.bitReady.nextClock = d.nextClock ∧ d.bitReady.nextCarry = d.nextCarry := by
  unfold Drive.bitReady
  split_ifs
  · exact ⟨rfl, rfl⟩
  · obtain ⟨-, times⟩ := Prod.mk.inj d.readBit_store
    exact Prod.mk.inj times
  · obtain ⟨-, times⟩ := Prod.mk.inj d.writeBit_store
    obtain ⟨clock, carry⟩ := Prod.mk.inj times
    exact ⟨clock.trans d.putBit_times.1, carry.trans d.putBit_times.2⟩

theorem Drive.bitReady_disk (d : Drive) (h : d.disk.writeProtected = true) : d.bitReady.disk = d.disk := by
  unfold Drive.bitReady
  split_ifs
  · rfl
  · exact congrArg Prod.fst d.readBit_store
  · exact (congrArg Prod.fst d.writeBit_store).trans (d.putBit_disk h)

/-- What the carry event has done before a bit. -/
def Drive.carried (d : Drive) : Drive :=
  { d with zone := d.density, ue7 := d.density.setWidth 4, ue3 := d.ue3 + 1,
           nextCarry := d.nextCarry + (16 - d.density.toNat) * 625 }

theorem Drive.carryEvent_eq (d : Drive) : d.carryEvent = if d.carried.ue3 = 0#2 then d.carried.bitReady else d.carried := rfl

theorem Drive.carryEvent_times (d : Drive) :
    d.carryEvent.nextClock = d.nextClock ∧ d.carryEvent.nextCarry = d.nextCarry + (16 - d.density.toNat) * 625 := by
  rw [Drive.carryEvent_eq]
  split
  · exact d.carried.bitReady_times
  · exact ⟨rfl, rfl⟩

theorem Drive.carryEvent_disk (d : Drive) (h : d.disk.writeProtected = true) : d.carryEvent.disk = d.disk := by
  rw [Drive.carryEvent_eq]
  split
  · exact d.carried.bitReady_disk h
  · rfl

/-! ## A drive with another disk -/

/-- The drive with another disk in it. -/
def Drive.withDisk (k : Disk) (d : Drive) : Drive := { d with disk := k }

@[simp] theorem Drive.withDisk_withDisk (k l : Disk) (d : Drive) : (d.withDisk l).withDisk k = d.withDisk k := rfl

theorem Drive.byteReady_withDisk (k : Disk) (d : Drive) : (d.withDisk k).byteReady = d.byteReady.withDisk k := by
  have so : (d.withDisk k).soEnabled = d.soEnabled := rfl
  unfold Drive.byteReady
  rw [so]
  split <;> rfl

theorem Drive.holdCount_withDisk (k : Disk) (d : Drive) : (d.withDisk k).holdCount = d.holdCount.withDisk k := by
  have sync : (d.withDisk k).sync = d.sync := rfl
  unfold Drive.holdCount
  rw [sync]
  split <;> rfl

theorem Drive.countBit_withDisk (k : Disk) (d : Drive) : (d.withDisk k).countBit = d.countBit.withDisk k := by
  have sync : (d.withDisk k).sync = d.sync := rfl
  have count : (d.withDisk k).byteCount = d.byteCount := rfl
  unfold Drive.countBit
  rw [sync, count]
  split_ifs
  · rfl
  · exact Drive.byteReady_withDisk k { d with byteCount := 0#3, readByte := d.shift.extractLsb' 0 8 }
  · rfl

/-- The head reads the same from a disk with the same halftracks. -/
theorem Drive.headBit_withDisk {k : Disk} {d : Drive} (h : k.tracks = d.disk.tracks) :
    (d.withDisk k).headBit = (d.headBit.1, d.headBit.2.withDisk k) := by
  have track : (d.withDisk k).track = d.track := congrArg (List.getD · (d.halftrack - 1) _) h
  have next : (d.withDisk k).nextOffset = d.nextOffset := by rw [Drive.nextOffset, track]; rfl
  unfold Drive.headBit
  rw [track, next]
  split <;> rfl

theorem Drive.readBit_withDisk {k : Disk} {d : Drive} (h : k.tracks = d.disk.tracks) :
    (d.withDisk k).readBit = d.readBit.withDisk k := by
  have disk : k.tracks = d.holdCount.disk.tracks :=
    h.trans (congrArg Disk.tracks (congrArg Prod.fst d.holdCount_store).symm)
  unfold Drive.readBit
  dsimp only
  rw [Drive.holdCount_withDisk, Drive.headBit_withDisk disk]
  exact Drive.countBit_withDisk k { d.holdCount.headBit.2 with
    shift := (d.holdCount.headBit.2.shift <<< 1) ||| (BitVec.ofBool d.holdCount.headBit.1).setWidth 10 }

theorem Drive.putBit_withDisk {k : Disk} {d : Drive} (h : k.tracks = d.disk.tracks) (l : Disk) :
    (d.withDisk k).putBit.withDisk l = d.putBit.withDisk l := by
  have track : (d.withDisk k).track = d.track := congrArg (List.getD · (d.halftrack - 1) _) h
  have next : (d.withDisk k).nextOffset = d.nextOffset := by rw [Drive.nextOffset, track]; rfl
  unfold Drive.putBit
  rw [track, next]
  split <;> rfl

/-- Up to the disk, the end of a write is a function of the drive up to the disk. -/
theorem Drive.writeBit_withDisk (l : Disk) (d : Drive) : d.writeBit.withDisk l =
    if (d.putBit.withDisk l).byteCount = 7#3 then ({ d.putBit.withDisk l with byteCount := 0#3 } : Drive).byteReady
    else { d.putBit.withDisk l with byteCount := (d.putBit.withDisk l).byteCount + 1 } := by
  have count : (d.putBit.withDisk l).byteCount = d.putBit.byteCount := rfl
  rw [Drive.writeBit_eq, count]
  split
  · exact (Drive.byteReady_withDisk l _).symm
  · rfl

/-- A bit event leaves the same drive, up to the disk, on disks with the same halftracks. -/
theorem Drive.bitReady_withDisk {k : Disk} {d : Drive} (h : k.tracks = d.disk.tracks) (l : Disk) :
    (d.withDisk k).bitReady.withDisk l = d.bitReady.withDisk l := by
  have motor : (d.withDisk k).motorOn = d.motorOn := rfl
  have mode : (d.withDisk k).readMode = d.readMode := rfl
  unfold Drive.bitReady
  rw [motor, mode]
  split_ifs
  · rfl
  · rw [Drive.readBit_withDisk h, Drive.withDisk_withDisk]
  · rw [Drive.writeBit_withDisk, Drive.putBit_withDisk h, Drive.writeBit_withDisk]

/-- The other pins of port B do not depend on the bit of PB4. -/
theorem byteOfBits_bit_ne_four (b7 b6 b5 b4 b4' b3 b2 b1 b0 : Bool) {k : Nat} (hk : k ≠ 4) :
    (byteOfBits b7 b6 b5 b4 b3 b2 b1 b0).getLsbD k = (byteOfBits b7 b6 b5 b4' b3 b2 b1 b0).getLsbD k := by
  by_cases h : k < 8
  · interval_cases k
    · rw [byteOfBits_bit0, byteOfBits_bit0]
    · rw [byteOfBits_bit1, byteOfBits_bit1]
    · rw [byteOfBits_bit2, byteOfBits_bit2]
    · rw [byteOfBits_bit3, byteOfBits_bit3]
    · exact absurd rfl hk
    · rw [byteOfBits_bit5, byteOfBits_bit5]
    · rw [byteOfBits_bit6, byteOfBits_bit6]
    · rw [byteOfBits_bit7, byteOfBits_bit7]
  · rw [BitVec.getLsbD_of_ge _ _ (by omega), BitVec.getLsbD_of_ge _ _ (by omega)]

/-! ## The schedule -/

/-- A bound on the events that are due at `now`: the clock's period is 10 000, a carry's at least 8125. -/
def Drive.due (now : Nat) (d : Drive) : Nat :=
  (now + 10000 - d.nextClock) / 10000 + (now + 8125 - d.nextCarry) / 8125

/-- A run long enough for what is due leaves nothing due. -/
theorem Drive.runEvents_done (cfg : Config) (p : IecPulls) (now : Nat) : ∀ (n : Nat) (d : Drive), d.due now ≤ n →
    now < (d.runEvents cfg p now n).nextClock ∧ now < (d.runEvents cfg p now n).nextCarry := by
  intro n
  induction n with
  | zero =>
    intro d h
    unfold Drive.due at h
    exact ⟨show now < d.nextClock by omega, show now < d.nextCarry by omega⟩
  | succ n ih =>
    intro d h
    unfold Drive.due at h
    unfold Drive.runEvents
    split
    · refine ih _ ?_
      unfold Drive.due
      split
      · obtain ⟨clock, carry⟩ := d.carryEvent_times
        have := d.density.isLt
        omega
      · obtain ⟨-, times⟩ := Prod.mk.inj (d.clockEvent_store cfg p)
        obtain ⟨clock, carry⟩ := Prod.mk.inj times
        omega
    · omega

theorem Drive.run_done (cfg : Config) (p : IecPulls) (now : Nat) (d : Drive) :
    now < (d.run cfg p now).nextClock ∧ now < (d.run cfg p now).nextCarry :=
  Drive.runEvents_done cfg p now _ d (by unfold Drive.due; omega)

end Sys2Proof.Machine

namespace Sys2Proof

open Machine

/-- Settles O58. -/
theorem gcrRoundTrip : Obligations.GcrRoundTrip := by
  intro table b hlen h
  rw [decodeGcr, encodeGcr, BitVec.extractLsb'_append_eq_left, BitVec.extractLsb'_append_eq_right,
    gcrNibble_gcrCode hlen h, gcrNibble_gcrCode hlen h]
  exact congrArg some BitVec.extractLsb'_append_extractLsb'

/-- Settles O59. -/
theorem protectedDiskKept : Obligations.ProtectedDiskKept := by
  refine ⟨fun cfg p now d h => ?_, fun free d => byteOfBits_bit4 .., fun d => ⟨fun free k hk => ?_, ?_⟩⟩
  · refine Drive.run_induction (P := fun e => e.disk = d.disk) (fun e he => ?_) (fun e he => ?_) now rfl
    · exact (congrArg Prod.fst (e.clockEvent_store cfg p)).trans he
    · exact (e.carryEvent_disk (he ▸ h)).trans he
  · exact byteOfBits_bit_ne_four _ _ _ _ _ _ _ _ _ hk
  · exact Drive.bitReady_withDisk (d := d) (k := { d.disk with writeProtected := !d.disk.writeProtected }) rfl d.disk

/-- Settles O60. -/
theorem driveKeepsTime : Obligations.DriveKeepsTime := fun cfg p now d =>
  ⟨congrArg (·.2.1) (d.clockEvent_store cfg p), d.carryEvent_times.2, d.run_done cfg p now⟩

end Sys2Proof
end
